-- ==== Sys2Proof/Word.lean ====
section
/-! DEFINITION. The word types of the block (00_scope R4, R7) and the plainest arithmetic on them. -/

namespace Sys2Proof

/-- One bit: an index of a pair (half, channel, buffer, descriptor). -/
abbrev Bit := BitVec 1
/-- One byte of memory. -/
abbrev Byte := BitVec 8
/-- A raw sample, an output level, a 16-bit register field (`SAMPLE_W`, R4). -/
abbrev Half := BitVec 16
/-- A register, a TransferBuffer word, a command word (`WORD_W`, R4). -/
abbrev Word := BitVec 32
/-- A byte offset from the block base, `0x00000 .. 0x3FFFF` (20_memory R60). -/
abbrev Addr := BitVec 18

/-- `1 - b`, the other index of a pair (R7). -/
def Bit.other (b : Bit) : Bit := 1#1 - b

end Sys2Proof
end

