-- ==== Sys2Proof/Config.lean ====
section
/-! DEFINITION. What an implementation fixes (00_scope R4) and the free values (93_implementation_defined U1, U9, U10; 10_state R35). -/

namespace Sys2Proof

/-- The parameters the document leaves OPEN (R4): words per TransferBuffer, samples per channel per
staging half, capacity of the event queue in tokens. -/
structure Params where
  n : Nat
  s : Nat
  evqDepth : Nat
  deriving DecidableEq, Repr

/-- A row of the host's rate table (43_output_driver R190): the triple `computeConfig` returns. -/
structure RateConfig where
  repeatShift : BitVec 3
  wrap : Half
  divider : Half
  deriving DecidableEq, Repr

namespace Config

/-- `VOL_ONE`: the denominator of the volume (R4, D2; log entry 5). -/
def volOne : Nat := 10
/-- `VOL_STEP` (R4, D2; log entry 5). -/
def volStep : Nat := 1
/-- `VOL_RESET` (R4, D2; log entry 5). -/
def volReset : Nat := 8

/-- `N - 1`, open within R4's bounds `1 <= N <= 8192` (DESIGN CHOICE, safe; log entry 4). -/
opaque nLessOne : Fin 8192
/-- `S - 1`, open within R4's bounds `1 <= S <= 16384` (DESIGN CHOICE, safe; log entry 4). -/
opaque sLessOne : Fin 16384
/-- `EVQ_DEPTH - 1`, open within R4's bound `EVQ_DEPTH >= 1` (DESIGN CHOICE, safe; log entry 4). -/
opaque evqDepthLessOne : Nat

/-- The open parameters of the one block `State.reset` describes (R4, U9; log entry 4). -/
def params : Params where
  n := nLessOne.val + 1
  s := sLessOne.val + 1
  evqDepth := evqDepthLessOne + 1

/-- U1, "any value": what a byte of TB or SB that nothing has written since reset reads as in step
number `step`, at block offset `addr`. Nothing constrains it (DESIGN CHOICE, safe; log entry 3). -/
opaque freeByte (step addr : Nat) : Byte

/-- What the 32-bit `EVQ_LEVEL` reads in step number `step` while the queue holds `len >= 2^32` tokens: R4
bounds `EVQ_DEPTH` below only, and the spec says nothing of it. Nothing constrains it (DESIGN CHOICE, safe;
log entry 18). -/
opaque evqLevelOver (step len : Nat) : Word

/-- U10: the host's `ConfigTable` from sample rates to configurations, `none` for an unsupported
rate; open, read by host procedures only (43_output_driver R190; DESIGN CHOICE, safe; log entry 16). -/
opaque configTable (rate : Nat) : Option RateConfig

end Config

end Sys2Proof
end

