-- ==== Sys2Proof/Syntax.lean ====
section
/-! DEFINITION. The commands of the block: one constructor per row of the opcode table (30_encoding R94). -/

namespace Sys2Proof

/-- A decoded command word (R93, R94). Each operand has exactly the width of its field (R95), so every
term is a command some word encodes. -/
inductive Instr where
  /-- `NOP` (43_output_driver R176). -/
  | nop
  /-- `INIT pin` (R177). -/
  | init (pin : Byte)
  /-- `RECONFIGURE` (R178). -/
  | reconfigure
  /-- `SETSRC rs, mono` (40_transfer_ring R122); `rs` is the repeat-shift itself. -/
  | setsrc (rs : BitVec 3) (mono : Bool)
  /-- `START` (R179). -/
  | start
  /-- `STOP` (R180). -/
  | stop
  /-- `REFILL idx` (40_transfer_ring R123). -/
  | refill (idx : Bit)
  /-- `VOL_UP` (41_volume_mixer R145). -/
  | volUp
  /-- `VOL_DOWN` (R146). -/
  | volDown
  /-- `SET_VOL vol` (R147). -/
  | setVol (vol : Half)
  /-- `CLR_ERR` (R181). -/
  | clrErr
  deriving DecidableEq, Repr

end Sys2Proof
end

