-- ==== Sys2Proof/Machine/Input.lean ====
section
/-! DEFINITION. What reaches the block from outside: the host's bus operations and the schedule (00_scope R5, R6; 70_reset_and_hazards R284). -/

namespace Sys2Proof.Machine

/-- The width of a host bus access (20_memory R63; "No access wider than 32 bits exists", R70). -/
inductive Width where
  | byte
  | half
  | word
  deriving DecidableEq, Repr

/-- One thing the host can do to the block (R5, R284): a bus read or write at a byte offset, or `Reset`.
The named host steps of R5 are bus accesses at particular offsets (`Machine/Bus.lean`). The data of a
write narrower than 32 bits lies in the low bits of `v`. -/
inductive HostOp where
  | read (a : Addr) (w : Width)
  | write (a : Addr) (w : Width) (v : Word)
  | reset
  deriving DecidableEq, Repr

/-- The three agents that execute steps (R5): `HOST`, `CP` (whose own step is `RefillWord`) and `DS`
(whose step is `Tick`). -/
inductive Agent where
  | host
  | cp
  | ds
  deriving DecidableEq, Repr

end Sys2Proof.Machine
end

