-- ==== Sys2Proof/WellFormed.lean ====
section
/-! DEFINITION. Which terms are meaningful: the bounds of the open parameters and the data of a bus write.
A command needs no check: the types of `Instr`'s operands are exactly as wide as their fields (30_encoding R95). -/

namespace Sys2Proof

/-- The bounds on the open parameters (00_scope R4, D24). -/
def Params.wf (p : Params) : Bool :=
  decide (1 ≤ p.n) && decide (p.n ≤ 8192) && decide (1 ≤ p.s) && decide (p.s ≤ 16384) && decide (1 ≤ p.evqDepth)

/-- How many bytes an access of a width touches (20_memory R63). -/
def Machine.Width.bytes : Machine.Width → Nat
  | .byte => 1
  | .half => 2
  | .word => 4

/-- The data of a write fits its width (20_memory R63). -/
def Machine.HostOp.wf : Machine.HostOp → Bool
  | .read _ _ => true
  | .write _ w v => decide (v.toNat < 256 ^ w.bytes)
  | .reset => true

end Sys2Proof
end

