-- ==== Sys2Proof/Decode.lean ====
section
/-! DEFINITION. Decoding and encoding of command words (30_encoding R91, R93 to R96). -/

namespace Sys2Proof

/-- Why a word is no command (R96): its `op` is unassigned, or its `op` is legal and a reserved bit of
its format is 1. The block treats both alike (`E_ILLEGAL_CMD`). -/
inductive Illegal where
  | unassignedOp (op : Byte)
  | reservedBit (op : Byte)
  deriving DecidableEq, Repr

/-- One row of the opcode map (R94): a word `w` selects it when `w AND mask = match`; `operands` is
the operand assembly of R95. -/
structure OpRow where
  matchBits : Word
  mask : Word
  operands : Word → Instr

/-- `pin = w[7:0]` (R95). -/
def pinField (w : Word) : Byte := w.extractLsb' 0 8
/-- `rs = w[2:0]` (R95). -/
def rsField (w : Word) : BitVec 3 := w.extractLsb' 0 3
/-- `mono = w[8]` (R95). -/
def monoField (w : Word) : Bool := w.getLsbD 8
/-- `idx = w[0]` (R95). -/
def idxField (w : Word) : Bit := w.extractLsb' 0 1
/-- `vol = w[15:0]` (R95). -/
def volField (w : Word) : Half := w.extractLsb' 0 16
/-- `op = w[31:24]` (R93). -/
def opField (w : Word) : Byte := w.extractLsb' 24 8

/-- The opcode map (R94). -/
def opcodeMap : List OpRow := [
  ⟨0x00000000#32, 0xFFFFFFFF#32, fun _ => .nop⟩,
  ⟨0x01000000#32, 0xFFFFFF00#32, fun w => .init (pinField w)⟩,
  ⟨0x02000000#32, 0xFFFFFFFF#32, fun _ => .reconfigure⟩,
  ⟨0x03000000#32, 0xFFFFFEF8#32, fun w => .setsrc (rsField w) (monoField w)⟩,
  ⟨0x04000000#32, 0xFFFFFFFF#32, fun _ => .start⟩,
  ⟨0x05000000#32, 0xFFFFFFFF#32, fun _ => .stop⟩,
  ⟨0x06000000#32, 0xFFFFFFFE#32, fun w => .refill (idxField w)⟩,
  ⟨0x07000000#32, 0xFFFFFFFF#32, fun _ => .volUp⟩,
  ⟨0x08000000#32, 0xFFFFFFFF#32, fun _ => .volDown⟩,
  ⟨0x09000000#32, 0xFFFF0000#32, fun w => .setVol (volField w)⟩,
  ⟨0x0A000000#32, 0xFFFFFFFF#32, fun _ => .clrErr⟩]

/-- The word selects the row (R94). -/
def OpRow.selects (r : OpRow) (w : Word) : Bool := w &&& r.mask == r.matchBits

/-- Decoding of a command word (R91, R94, R96): nothing but the word decides. -/
def decodeWord (w : Word) : Except Illegal Instr :=
  match opcodeMap.find? (fun r => r.selects w) with
  | some r => .ok (r.operands w)
  | none =>
    if (opField w).toNat < opcodeMap.length then .error (.reservedBit (opField w))
    else .error (.unassignedOp (opField w))

/-- The word of a command (R93): `op || imm`, the reserved bits 0. -/
def encode : Instr → Word
  | .nop => 0x00#8 ++ 0#24
  | .init pin => 0x01#8 ++ (0#16 ++ pin)
  | .reconfigure => 0x02#8 ++ 0#24
  | .setsrc rs mono => 0x03#8 ++ (0#15 ++ (BitVec.ofBool mono ++ (0#5 ++ rs)))
  | .start => 0x04#8 ++ 0#24
  | .stop => 0x05#8 ++ 0#24
  | .refill idx => 0x06#8 ++ (0#23 ++ idx)
  | .volUp => 0x07#8 ++ 0#24
  | .volDown => 0x08#8 ++ 0#24
  | .setVol vol => 0x09#8 ++ (0#8 ++ vol)
  | .clrErr => 0x0A#8 ++ 0#24

/-- What the decoder reads from an instruction of the table's `nbits` bits `w`, the bits above them 0.
A command is one 32-bit word (R90), so a longer row is no command. -/
def decodeTableWord (nbits w : Nat) : Option Instr :=
  if nbits ≤ 32 then (decodeWord (BitVec.ofNat 32 (w % 2 ^ nbits))).toOption else none

end Sys2Proof
end

