-- ==== Sys2Proof/Machine/State.lean ====
section
/-! DEFINITION. The state of the block (10_state R20 to R42), its reset (R41), and the reasons a step can stop. -/

namespace Sys2Proof.Machine

/-- The TB and SB memories (10_state R38): pairs of a block offset and the byte written there, offsets
strictly rising. An unlisted offset has not been written since reset and holds no defined value (U1). -/
abbrev Memory := List Host.Cell

/-- The canonical form of `Memory`: offsets strictly rising. Every listed byte is a written one, so no
entry repeats what an unlisted offset reads as. -/
def Memory.wf : Memory → Bool
  | [] => true
  | [_] => true
  | c :: c' :: m => decide (c.1 < c'.1) && Memory.wf (c' :: m)

/-- A transfer descriptor (30_encoding R103). -/
structure Descriptor where
  readAddr : Word
  writeAddr : Word
  count : Word
  ctrl : Word
  deriving DecidableEq, Repr

/-- The error codes of `STATUS.ERR` (60_exceptions R240; codes 6 to 15 are never produced, log entry 14). -/
inductive ErrCode where
  | none
  | illegalCmd
  | config
  | state
  | token
  | access
  deriving DecidableEq, Repr

/-- Everything the spec gives the block, and the four fields of the model's own at the end. -/
structure State where
  /-- `N`, `S`, `EVQ_DEPTH` (00_scope R4); no step changes them. -/
  params : Params
  /-- `ARG` (R24). -/
  arg : Word
  /-- `STATUS.INITED` (R25). -/
  inited : Bool
  /-- `STATUS.BUSY` (R25). -/
  busy : Bool
  /-- `STATUS.HALT` (R25). -/
  halt : Bool
  /-- `STATUS.EVQ_OVF` (R25). -/
  evqOvf : Bool
  /-- `STATUS.EN_MASK` (R25). -/
  enMask : BitVec 4
  /-- `STATUS.ERR` (R25, R240). -/
  err : ErrCode
  /-- `ERRINFO` (R26). -/
  errInfo : Word
  /-- `CFG.WRAP` (R27). -/
  wrap : Half
  /-- `CFG.DIV` (R27). -/
  div : Half
  /-- `RING.RS` (R28). -/
  rs : BitVec 3
  /-- `RING.MONO` (R28). -/
  mono : Bool
  /-- `RING.CUR_HALF` (R28). -/
  curHalf : Bit
  /-- `RING.FILL_IDX` (R28). -/
  fillIdx : Bit
  /-- `RING.PIN` (R28). -/
  pin : Byte
  /-- `CURSOR` (R29). -/
  cursor : Word
  /-- `VOL` (R30). -/
  vol : Half
  /-- `DMASTAT.ACT` (R32). -/
  act : Bit
  /-- `DMASTAT.POS` (R32). -/
  pos : BitVec 14
  /-- `CC` (R33). -/
  cc : Word
  /-- `RFSTAT.RF_IDX` (R34). -/
  rfIdx : Bit
  /-- `RFSTAT.RF_K` (R34). -/
  rfK : BitVec 14
  /-- `EVQ`, head first (R35). -/
  evq : List Word
  /-- `DESC[0]` (R36). -/
  desc0 : Descriptor
  /-- `DESC[1]` (R36). -/
  desc1 : Descriptor
  /-- `TB` and `SB` at their block offsets (R38, R61). -/
  mem : Memory
  /-- The ghost `OUT` (00_scope R9), oldest first. -/
  out : List Word
  /-- The model's own: every value a host read returned since reset, oldest first (log entry 8). -/
  returned : List Word
  /-- The model's own: the host's operations still to come, next first (log entry 2). -/
  hostOps : List HostOp
  /-- The model's own: the schedule, the agent that moves next first (log entry 1). -/
  turns : List Agent
  /-- The model's own: the index of this step's free bytes (U1, log entry 3). -/
  freeIdx : Nat
  deriving DecidableEq, Repr

/-- Why the machine stops. -/
inductive Fault where
  /-- Raised by `Tick` when a descriptor is not canonical (30_encoding R103, 44_dma_scheduler R202; U6:
  "any other value must fault"). No reachable state raises it. Safe: the spec gives no behaviour there
  (log entry 6). -/
  | descriptorNotCanonical
  deriving DecidableEq, Repr

/-- Why an instruction is refused by the model. -/
inductive Refusal where
  /-- Raised by an arm of `exec` that has no meaning yet; no arm is left in that state. Safe. -/
  | notModelled (mnemonic : String)
  deriving DecidableEq, Repr

/-- What one step of the block answers. -/
abbrev Result := Host.Outcome State Fault Refusal

/-- A descriptor with all four words 0 (R36). -/
def Descriptor.zero : Descriptor := ⟨0#32, 0#32, 0#32, 0#32⟩

/-- The state after `Reset` (R41, R280) for given open parameters, nothing scheduled. -/
def State.resetWith (p : Params) : State where
  params := p
  arg := 0#32
  inited := false
  busy := false
  halt := false
  evqOvf := false
  enMask := 0#4
  err := .none
  errInfo := 0#32
  wrap := 0#16
  div := 0#16
  rs := 0#3
  mono := false
  curHalf := 0#1
  fillIdx := 0#1
  pin := 0#8
  cursor := 0#32
  vol := BitVec.ofNat 16 Config.volReset
  act := 0#1
  pos := 0#14
  cc := 0#32
  rfIdx := 0#1
  rfK := 0#14
  evq := []
  desc0 := Descriptor.zero
  desc1 := Descriptor.zero
  mem := []
  out := []
  returned := []
  hostOps := []
  turns := []
  freeIdx := 0

/-- The state after reset, the open parameters left open (R4, R41). -/
def State.reset : State := State.resetWith Config.params

end Sys2Proof.Machine
end

