-- ==== Sys2Proof/Machine/Ops.lean ====
section
/-! DEFINITION. The named operations over memory, queue, descriptors and error latch: every other file reads and writes the state through them. -/

namespace Sys2Proof.Machine

/-! ## Memory (20_memory) -/

/-- Write one byte, keeping the offsets strictly rising (log entry 3). -/
def Memory.write : Memory → Nat → Byte → Memory
  | [], a, b => [(a, b)]
  | c :: m, a, b =>
    if a < c.1 then (a, b) :: c :: m
    else if a = c.1 then (a, b) :: m
    else c :: Memory.write m a b

/-- Byte `k` of a word, byte 0 its least significant (R62). -/
def byteOf {w : Nat} (v : BitVec w) (k : Nat) : Byte := v.extractLsb' (8 * k) 8

/-- `MemWrite(a, 2, v)`, little-endian (R62). -/
def Memory.writeHalf (m : Memory) (a : Nat) (v : Half) : Memory :=
  (m.write a (byteOf v 0)).write (a + 1) (byteOf v 1)

/-- `MemWrite(a, 4, v)`, little-endian (R62). -/
def Memory.writeWord (m : Memory) (a : Nat) (v : Word) : Memory :=
  (((m.write a (byteOf v 0)).write (a + 1) (byteOf v 1)).write (a + 2) (byteOf v 2)).write (a + 3) (byteOf v 3)

/-- The byte at an offset: the one last written there since reset, else this step's free byte for that
offset (R71, U1; log entry 3). -/
def State.readByte (s : State) (a : Nat) : Byte :=
  match s.mem.lookup a with
  | some b => b
  | none => Config.freeByte s.freeIdx a

/-- `MemRead(a, 2)`, little-endian (R62). -/
def State.readHalf (s : State) (a : Nat) : Half := s.readByte (a + 1) ++ s.readByte a

/-- `MemRead(a, 4)`, little-endian (R62). -/
def State.readWord (s : State) (a : Nat) : Word :=
  s.readByte (a + 3) ++ (s.readByte (a + 2) ++ (s.readByte (a + 1) ++ s.readByte a))

/-- Replace the memory. -/
def State.setMem (s : State) (m : Memory) : State := { s with mem := m }

/-- `TB_BASE` (R61). -/
def tbBase : Nat := 0x10000
/-- `SB_BASE` (R61). -/
def sbBase : Nat := 0x20000

/-- The offset of `TB[i][k]` (R61). -/
def tbAddr (p : Params) (i : Bit) (k : Nat) : Nat := tbBase + 4 * (i.toNat * p.n + k)

/-- The offset of `SB[h][c][i]` (R61). -/
def sbAddr (p : Params) (h c : Bit) (i : Nat) : Nat := sbBase + 2 * ((2 * h.toNat + c.toNat) * p.s + i)

/-- `TB[i][k]` (R8). -/
def State.tb (s : State) (i : Bit) (k : Nat) : Word := s.readWord (tbAddr s.params i k)

/-- `SB[h][c][i]` (R8). -/
def State.sb (s : State) (h c : Bit) (i : Nat) : Half := s.readHalf (sbAddr s.params h c i)

/-- `TB[i][k] <- w` (R8). -/
def State.writeTb (s : State) (i : Bit) (k : Nat) (w : Word) : State :=
  s.setMem (s.mem.writeWord (tbAddr s.params i k) w)

/-! ## Errors (60_exceptions): what stands in the place of taking an exception and returning from one -/

/-- Record an error code and its information (R240). -/
def State.latch (s : State) (code : ErrCode) (info : Word) : State :=
  { s with err := code, errInfo := info }

/-- `refuse(code, info)`, the non-fatal refusal: the first error is kept, nothing else happens (R242). -/
def State.refuse (s : State) (code : ErrCode) (info : Word) : State :=
  if s.err = .none then s.latch code info else s

/-- Set all four bits of `EN_MASK` in one step (R25, R73). -/
def State.setEnMask (s : State) (m : BitVec 4) : State := { s with enMask := m }

/-- `fatal(code, info)`, the fatal fault: it overrides a latched code, halts `CP` and disarms the
output (R241). -/
def State.fatal (s : State) (code : ErrCode) (info : Word) : State :=
  { (s.latch code info).setEnMask 0b0000#4 with halt := true }

/-- The return from a non-fatal error, `CLR_ERR`'s effect (R181, R255). -/
def State.clearErrors (s : State) : State := { s.latch .none 0#32 with evqOvf := false }

/-! ## The event queue (60_exceptions R247 to R250, 30_encoding R100) -/

/-- `EMPTY` (R100). -/
def tokenEmpty : Word := 0x00000000#32
/-- `TRANSFER_DONE(i)`: code 1, `idx` in bit 8 (R100). -/
def tokenTransferDone (i : Bit) : Word := 0#23 ++ (i ++ 0x01#8)
/-- `STAGING_REQ` (R100). -/
def tokenStagingReq : Word := 0x00000002#32
/-- The four external codes `VOLUME_UP`, `VOLUME_DOWN`, `CHANGE_SOURCE`, `QUIT` (R100, R252). -/
def externalTokens : List Word := [0x00000010#32, 0x00000011#32, 0x00000012#32, 0x00000013#32]
/-- The seven tokens the queue can hold (R40, R100). -/
def queueTokens : List Word :=
  [tokenTransferDone 0#1, tokenTransferDone 1#1, tokenStagingReq] ++ externalTokens

/-- Replace the queue. -/
def State.setEvq (s : State) (q : List Word) : State := { s with evq := q }

/-- `EvqPush(t)`: append at the tail, or drop the token and set `EVQ_OVF` when the queue is full (R248). -/
def State.evqPush (s : State) (t : Word) : State :=
  if s.evq.length < s.params.evqDepth then s.setEvq (s.evq ++ [t]) else { s with evqOvf := true }

/-- The token `EvqPop()` returns (R250). -/
def State.evqHead (s : State) : Word := s.evq.headD tokenEmpty

/-- The state `EvqPop()` leaves: the head removed, an empty queue as it was (R250). -/
def State.evqPop (s : State) : State := s.setEvq s.evq.tail

/-! ## Descriptors (44_dma_scheduler R200 to R202, 30_encoding R103) -/

/-- The offset of `CC` (R61). -/
def ccAddr : Nat := 0x028

/-- `CTRL` of `canonical(i)`: `EN | IRQ_EN | INCR_READ | SIZE = 2 | CHAIN_TO = 1 - i` (R103, R201). -/
def canonicalCtrl (i : Bit) : Word := 0#23 ++ (i.other ++ 0b00100111#8)

/-- `canonical(i)` (R201). -/
def canonicalDesc (p : Params) (i : Bit) : Descriptor where
  readAddr := BitVec.ofNat 32 (tbBase + 4 * i.toNat * p.n)
  writeAddr := BitVec.ofNat 32 ccAddr
  count := BitVec.ofNat 32 p.n
  ctrl := canonicalCtrl i

/-- `COUNT[13:0]` (R103). -/
def Descriptor.transfers (d : Descriptor) : BitVec 14 := d.count.extractLsb' 0 14
/-- `CTRL.IRQ_EN` (R103). -/
def Descriptor.irqEn (d : Descriptor) : Bool := d.ctrl.getLsbD 1
/-- `CTRL.CHAIN_TO` (R103). -/
def Descriptor.chainTo (d : Descriptor) : Bit := d.ctrl.extractLsb' 8 1

/-- `DESC[i]` (R36). -/
def State.desc (s : State) (i : Bit) : Descriptor := if i = 0#1 then s.desc0 else s.desc1

/-- Both descriptors are canonical, the only values `DS` is defined for (R202). -/
def State.descCanonical (s : State) : Bool :=
  decide (s.desc0 = canonicalDesc s.params 0#1) && decide (s.desc1 = canonicalDesc s.params 1#1)

/-! ## What the host gets back, and the schedule -/

/-- A host read returns `v` (R66; log entry 8). -/
def State.giveHost (s : State) (v : Word) : State := { s with returned := s.returned ++ [v] }

/-- The turn at the head of the schedule begins: the rest of the schedule stays, and this step's free
bytes are fresh ones (log entries 1 and 3). -/
def State.beginTurn (s : State) (rest : List Agent) : State :=
  { s with turns := rest, freeIdx := s.freeIdx + 1 }

/-- The host's next operation is taken (log entry 2). -/
def State.setHostOps (s : State) (ops : List HostOp) : State := { s with hostOps := ops }

/-- `Reset`: every piece of the block's state at its reset value, `TB` and `SB` unwritten again (R280).
The parameters, the schedule, the host's operations and the free index are no state of the block and
stay (log entry 9). -/
def State.afterReset (s : State) : State :=
  { State.resetWith s.params with hostOps := s.hostOps, turns := s.turns, freeIdx := s.freeIdx }

end Sys2Proof.Machine
end

