-- ==== Sys2Proof/Machine/Operands.lean ====
section
/-! DEFINITION. The operands a command or a hardware step reads: the fields of `ARG` and the raw samples at the staging cursor. -/

namespace Sys2Proof.Machine

/-- `wrap = ARG[15:0]` (30_encoding R97). -/
def State.argWrap (s : State) : Half := s.arg.extractLsb' 0 16
/-- `divider = ARG[31:16]` (R97). -/
def State.argDiv (s : State) : Half := s.arg.extractLsb' 16 16

/-- `S << RS`: the output words one staging half lasts (10_state R29, 41_volume_mixer R148 (e)). -/
def State.halfWords (s : State) : Nat := s.params.s <<< s.rs.toNat

/-- `CURSOR >> RS`: the index of the raw sample of the next output word (40_transfer_ring R124). -/
def State.sampleIndex (s : State) : Nat := s.cursor.toNat >>> s.rs.toNat

/-- `rawL`: the left raw sample at the cursor (R124). -/
def State.rawLeft (s : State) : Half := s.sb s.curHalf 0#1 s.sampleIndex

/-- `rawR`: in mono mode the left sample, and channel 1 is not read (R124, D35). -/
def State.rawRight (s : State) : Half :=
  if s.mono then s.rawLeft else s.sb s.curHalf 1#1 s.sampleIndex

end Sys2Proof.Machine
end

