-- ==== Sys2Proof/Machine/Mixer.lean ====
section
/-! DEFINITION. The volume mixer's arithmetic (41_volume_mixer R140 to R143): exact integers, narrowed once at the end. -/

namespace Sys2Proof.Machine

/-- `clamp(v, lo, hi)` (00_scope R8). -/
def clamp (v lo hi : Int) : Int := if v < lo then lo else if hi < v then hi else v

/-- `round_div(p, d)`: the integer nearest to `p / d`, ties away from zero (R142). -/
def roundDiv (p d : Int) : Int :=
  if 0 ≤ p then (2 * p + d) / (2 * d) else -((2 * (-p) + d) / (2 * d))

/-- `MID = WRAP >> 1` (10_state R31). -/
def midOf (wrap : Half) : Half := wrap >>> 1

/-- `scale(raw)` as the exact integer of R141. -/
def scaleInt (wrap vol raw : Half) : Int :=
  clamp (roundDiv (((raw.toNat : Int) - (midOf wrap).toNat) * vol.toNat) Config.volOne + (midOf wrap).toNat) 0 wrap.toNat

/-- `scale(raw)`, which fits 16 bits (R141). -/
def scale (wrap vol raw : Half) : Half := BitVec.ofInt 16 (scaleInt wrap vol raw)

/-- `MID` (R31): not separate state. -/
def State.mid (s : State) : Half := midOf s.wrap

/-- `scale` with the registers' `WRAP` and `VOL` (R141). -/
def State.scaled (s : State) (raw : Half) : Half := scale s.wrap s.vol raw

/-- The packed word of two lanes, left in bits 31:16 (30_encoding R101, 41_volume_mixer R143). -/
def pack (left right : Half) : Word := left ++ right

/-- The output word made from the raw samples at the cursor (40_transfer_ring R124). -/
def State.mixedWord (s : State) : Word :=
  pack (s.scaled s.rawLeft) (if s.mono then s.scaled s.rawLeft else s.scaled s.rawRight)

end Sys2Proof.Machine
end

