-- ==== Sys2Proof/Machine/Flags.lean ====
section
/-! DEFINITION. The status flags, derived ones among them, and every register as the word a host read returns (10_state R25 to R36). Bits no field names read 0. -/

namespace Sys2Proof.Machine

/-- `STATUS.RUNNING`: 1 exactly when `EN_MASK = 0b1111` (R25). -/
def State.running (s : State) : Bool := s.enMask == 0b1111#4

/-- `STATUS.EVQ_NE`, the level of the interrupt output `IRQ` (R25, 60_exceptions R247). -/
def State.irq (s : State) : Bool := !s.evq.isEmpty

/-- The code `STATUS.ERR` holds (60_exceptions R240). -/
def ErrCode.code : ErrCode → BitVec 4
  | .none => 0#4
  | .illegalCmd => 1#4
  | .config => 2#4
  | .state => 3#4
  | .token => 4#4
  | .access => 5#4

/-- `STATUS` (R25): `ERR` 19:16, `EN_MASK` 11:8, then bits 5 to 0. -/
def State.statusWord (s : State) : Word :=
  0#12 ++ (s.err.code ++ (0#4 ++ (s.enMask ++ (0#2 ++ (BitVec.ofBool s.evqOvf ++ (BitVec.ofBool s.irq ++
    (BitVec.ofBool s.halt ++ (BitVec.ofBool s.busy ++ (BitVec.ofBool s.running ++ BitVec.ofBool s.inited)))))))))

/-- `CFG` (R27): `DIV` 31:16, `WRAP` 15:0. -/
def State.cfgWord (s : State) : Word := s.div ++ s.wrap

/-- `RING` (R28): `PIN` 15:8, `FILL_IDX` 5, `CUR_HALF` 4, `MONO` 3, `RS` 2:0. -/
def State.ringWord (s : State) : Word :=
  0#16 ++ (s.pin ++ (0#2 ++ (s.fillIdx ++ (s.curHalf ++ (BitVec.ofBool s.mono ++ s.rs)))))

/-- `VOL` (R30): `VOL[15:0]`. -/
def State.volWord (s : State) : Word := 0#16 ++ s.vol

/-- `MID` (R31): `MID[15:0]`. -/
def State.midWord (s : State) : Word := 0#16 ++ s.mid

/-- `DMASTAT` (R32): `POS` 29:16, `ACT` 0. -/
def State.dmaStatWord (s : State) : Word := 0#2 ++ (s.pos ++ (0#15 ++ s.act))

/-- `RFSTAT` (R34): `RF_K` 29:16, `RF_IDX` 0. -/
def State.rfStatWord (s : State) : Word := 0#2 ++ (s.rfK ++ (0#15 ++ s.rfIdx))

/-- `EVQ_LEVEL` (R35): the current length of the queue. A length that does not fit the register's 32 bits,
of which the spec says nothing (R4), reads as a free value (DESIGN CHOICE; log entry 18). -/
def State.evqLevelWord (s : State) : Word :=
  if s.evq.length < 2 ^ 32 then BitVec.ofNat 32 s.evq.length else Config.evqLevelOver s.freeIdx s.evq.length

end Sys2Proof.Machine
end

