-- ==== Sys2Proof/Machine/OutputDriver.lean ====
section
/-! DEFINITION. The commands of the output driver (43_output_driver R175 to R181). Each is the command rule alone: that `HALT` ignores and `BUSY` holds a command is decided before it (`Machine/Bus.lean`, log entry 12). -/

namespace Sys2Proof.Machine

/-- `NOP` (R176). -/
def execNop (s : State) : Result := .next s

/-- `INIT pin` (R177): the state check, then the operand check, then the whole effect. -/
def execInit (pin : Byte) (s : State) : Result :=
  if s.running then .next (s.refuse .state (encode (.init pin)))
  else if s.argWrap = 0#16 then .next (s.refuse .config (encode (.init pin)))
  else .next { s with
    pin := pin
    wrap := s.argWrap
    div := s.argDiv
    desc0 := canonicalDesc s.params 0#1
    desc1 := canonicalDesc s.params 1#1
    inited := true }

/-- `RECONFIGURE` (R178). -/
def execReconfigure (s : State) : Result :=
  if s.running || !s.inited then .next (s.refuse .state (encode .reconfigure))
  else if s.argWrap = 0#16 then .next (s.refuse .config (encode .reconfigure))
  else .next { s with wrap := s.argWrap, div := s.argDiv }

/-- `START` (R179): output begins at descriptor 0, word 0. -/
def execStart (s : State) : Result :=
  if s.running || !s.inited then .next (s.refuse .state (encode .start))
  else .next ({ s with act := 0#1, pos := 0#14 }.setEnMask 0b1111#4)

/-- `STOP` (R180): everything else keeps its value. -/
def execStop (s : State) : Result := .next (s.setEnMask 0b0000#4)

/-- `CLR_ERR` (R181). -/
def execClrErr (s : State) : Result := .next s.clearErrors

end Sys2Proof.Machine
end

