-- ==== Sys2Proof/Machine/TransferRing.lean ====
section
/-! DEFINITION. The transfer ring (40_transfer_ring): the commands `SETSRC` and `REFILL`, and the hardware step `RefillWord`. -/

namespace Sys2Proof.Machine

/-- `SETSRC rs, mono` (R122). -/
def execSetsrc (rs : BitVec 3) (mono : Bool) (s : State) : Result :=
  if s.running then .next (s.refuse .state (encode (.setsrc rs mono)))
  else .next { s with rs := rs, mono := mono, curHalf := 0#1, fillIdx := 0#1, cursor := 0#32 }

/-- `REFILL idx` (R123): `N` `RefillWord` steps follow. Whether `idx` is the fillable buffer is not
checked (R127, D36). -/
def execRefill (idx : Bit) (s : State) : Result :=
  if !s.inited then .next (s.refuse .state (encode (.refill idx)))
  else .next { s with rfIdx := idx, rfK := 0#14, busy := true }

/-- The cursor part of `RefillWord` (R124): advance by one word; at the end of the half switch halves,
restart the cursor and push `STAGING_REQ`. -/
def State.advanceCursor (s : State) : State :=
  if (s.cursor + 1#32).toNat = s.halfWords then
    { s with curHalf := s.curHalf.other, cursor := 0#32 }.evqPush tokenStagingReq
  else { s with cursor := s.cursor + 1#32 }

/-- The refill part of `RefillWord` (R124): after word `N` the refill is complete and the ring's active
index flips. -/
def State.advanceRefill (s : State) : State :=
  if (s.rfK + 1#14).toNat = s.params.n then
    { s with rfK := 0#14, busy := false, fillIdx := s.fillIdx.other }
  else { s with rfK := s.rfK + 1#14 }

/-- `RefillWord` (R124): the hardware step that produces one output word. -/
def refillWord (s : State) : State :=
  (s.writeTb s.rfIdx s.rfK.toNat s.mixedWord).advanceCursor.advanceRefill

end Sys2Proof.Machine
end

