-- ==== Sys2Proof/Machine/Volume.lean ====
section
/-! DEFINITION. The volume commands (41_volume_mixer R145 to R147): they saturate and never wrap. -/

namespace Sys2Proof.Machine

/-- `VOL_UP` (R145): `VOL <- min(VOL + VOL_STEP, VOL_ONE)`. -/
def execVolUp (s : State) : Result :=
  .next { s with vol := BitVec.ofNat 16 (min (s.vol.toNat + Config.volStep) Config.volOne) }

/-- `VOL_DOWN` (R146): `VOL <- max(VOL - VOL_STEP, 0)`; the subtraction of naturals stops at 0. -/
def execVolDown (s : State) : Result :=
  .next { s with vol := BitVec.ofNat 16 (s.vol.toNat - Config.volStep) }

/-- `SET_VOL vol` (R147): `VOL <- min(vol, VOL_ONE)`. -/
def execSetVol (vol : Half) (s : State) : Result :=
  .next { s with vol := BitVec.ofNat 16 (min vol.toNat Config.volOne) }

end Sys2Proof.Machine
end

