-- ==== Sys2Proof/Machine/Dispatch.lean ====
section
/-! DEFINITION. `exec`: the command rule of each row of the opcode map (30_encoding R91, R94). -/

namespace Sys2Proof.Machine

/-- Perform the command rule of a decoded command word (R91). -/
def exec (i : Instr) (s : State) : Host.Outcome State Fault Refusal :=
  match i with
  | .nop => Sys2Proof.Machine.execNop s
  | .init pin => Sys2Proof.Machine.execInit pin s
  | .reconfigure => Sys2Proof.Machine.execReconfigure s
  | .setsrc rs mono => Sys2Proof.Machine.execSetsrc rs mono s
  | .start => Sys2Proof.Machine.execStart s
  | .stop => Sys2Proof.Machine.execStop s
  | .refill idx => Sys2Proof.Machine.execRefill idx s
  | .volUp => Sys2Proof.Machine.execVolUp s
  | .volDown => Sys2Proof.Machine.execVolDown s
  | .setVol vol => Sys2Proof.Machine.execSetVol vol s
  | .clrErr => Sys2Proof.Machine.execClrErr s

end Sys2Proof.Machine
end

