-- ==== Sys2Proof/Machine/Scheduler.lean ====
section
/-! DEFINITION. The DMA descriptor scheduler (44_dma_scheduler): its one step, `Tick`. -/

namespace Sys2Proof.Machine

/-- The position part of `Tick` (R203): after the descriptor's last word its pass ends, control goes to
the descriptor it chains to, and `TRANSFER_DONE` of the exhausted buffer is pushed. -/
def State.advanceDma (s : State) (d : Descriptor) : State :=
  if s.pos + 1#14 = d.transfers then
    if d.irqEn then { s with pos := 0#14, act := d.chainTo }.evqPush (tokenTransferDone s.act)
    else { s with pos := 0#14, act := d.chainTo }
  else { s with pos := s.pos + 1#14 }

/-- The word the descriptor in flight transfers next (R203, R205 (a)). -/
def State.dmaWord (s : State) : Word := s.readWord ((s.desc s.act).readAddr.toNat + 4 * s.pos.toNat)

/-- The store of `Tick` to `CC`, and its record in the ghost `OUT` (R203, R205 (b), 00_scope R9). -/
def State.outputWord (s : State) (w : Word) : State := { s with cc := w, out := s.out ++ [w] }

/-- `Tick` (R203). It is defined for canonical descriptors only (R202, U6; log entry 6). -/
def tick (s : State) : Result :=
  if s.descCanonical then .next ((s.outputWord s.dmaWord).advanceDma (s.desc s.act))
  else .fault .descriptorNotCanonical

end Sys2Proof.Machine
end

