-- ==== Sys2Proof/Machine/Bus.lean ====
section
/-! DEFINITION. The host's accesses to the block (20_memory R60 to R69, 30_encoding R91) and what each agent does with its turn (00_scope R5). -/

namespace Sys2Proof.Machine

/-- A word of a descriptor (30_encoding R103). -/
inductive DescWord where
  | readAddr
  | writeAddr
  | count
  | ctrl
  deriving DecidableEq, Repr

/-- The registers of the address map (20_memory R61). -/
inductive Reg where
  | cmd
  | arg
  | status
  | errInfo
  | cfg
  | ring
  | cursor
  | vol
  | mid
  | dmaStat
  | cc
  | rfStat
  | evqPop
  | evqPush
  | evqLevel
  | desc (i : Bit) (w : DescWord)
  deriving DecidableEq, Repr

/-- What an access of the right width and alignment reaches (R61): a register, a word of TB or a sample
of SB at its offset. -/
inductive Loc where
  | reg (r : Reg)
  | tb (a : Nat)
  | sb (a : Nat)
  deriving DecidableEq, Repr

/-- The offsets of the registers (R61, 10_state R36). -/
def registerMap : List (Nat × Reg) := [
  (0x000, .cmd), (0x004, .arg), (0x008, .status), (0x00C, .errInfo),
  (0x010, .cfg), (0x014, .ring), (0x018, .cursor), (0x01C, .vol),
  (0x020, .mid), (0x024, .dmaStat), (0x028, .cc), (0x02C, .rfStat),
  (0x030, .evqPop), (0x034, .evqPush), (0x038, .evqLevel),
  (0x040, .desc 0#1 .readAddr), (0x044, .desc 0#1 .writeAddr),
  (0x048, .desc 0#1 .count), (0x04C, .desc 0#1 .ctrl),
  (0x050, .desc 1#1 .readAddr), (0x054, .desc 1#1 .writeAddr),
  (0x058, .desc 1#1 .count), (0x05C, .desc 1#1 .ctrl)]

/-- The location an access reaches, `none` for one that is unmapped, misaligned or of the wrong width
(R61, R63, R68). -/
def locate (p : Params) (a : Nat) (w : Width) : Option Loc :=
  match w with
  | .byte => none
  | .half => if a % 2 = 0 ∧ sbBase ≤ a ∧ a < sbBase + 8 * p.s then some (.sb a) else none
  | .word =>
    match registerMap.lookup a with
    | some r => some (.reg r)
    | none => if a % 4 = 0 ∧ tbBase ≤ a ∧ a < tbBase + 8 * p.n then some (.tb a) else none

/-- A word of a descriptor as a host read returns it (10_state R36). -/
def Descriptor.word (d : Descriptor) : DescWord → Word
  | .readAddr => d.readAddr
  | .writeAddr => d.writeAddr
  | .count => d.count
  | .ctrl => d.ctrl

/-- The value a host read of a register returns (10_state R22 to R36); the write-only ports read 0
with no error (R66, R22; U7 says otherwise, log entry 19). -/
def State.regValue (s : State) : Reg → Word
  | .cmd => 0#32
  | .arg => s.arg
  | .status => s.statusWord
  | .errInfo => s.errInfo
  | .cfg => s.cfgWord
  | .ring => s.ringWord
  | .cursor => s.cursor
  | .vol => s.volWord
  | .mid => s.midWord
  | .dmaStat => s.dmaStatWord
  | .cc => s.cc
  | .rfStat => s.rfStatWord
  | .evqPop => s.evqHead
  | .evqPush => 0#32
  | .evqLevel => s.evqLevelWord
  | .desc i w => (s.desc i).word w

/-- `refuse(E_ACCESS, addr)` (R68, 60_exceptions R245). -/
def State.refuseAccess (s : State) (a : Addr) : State := s.refuse .access (a.setWidth 32)

/-- `HostRead(a)` of a given width (R66): the value goes to the host; only a read of `EVQ_POP` changes
the block (R69, `HostPop` R250); a refused read returns 0 (R68). A read of a write-only port is not refused
(R66; log entry 19). -/
def hostRead (a : Addr) (w : Width) (s : State) : State :=
  match locate s.params a.toNat w with
  | some (.reg .evqPop) => (s.giveHost s.evqHead).evqPop
  | some (.reg r) => s.giveHost (s.regValue r)
  | some (.tb a) => s.giveHost (s.readWord a)
  | some (.sb a) => s.giveHost (0#16 ++ s.readHalf a)
  | none => (s.refuseAccess a).giveHost 0#32

/-- `HostIssue(w)` where its step is enabled (30_encoding R91): ignored while `HALT`, else decoded and
performed; an illegal word is fatal (R96, 60_exceptions R241). -/
def hostIssue (w : Word) (s : State) : Result :=
  if s.halt then .next s
  else
    match decodeWord w with
    | .ok i => exec i s
    | .error _ => .next (s.fatal .illegalCmd w)

/-- `HostPushExt(v)` (60_exceptions R252). -/
def hostPushExt (v : Word) (s : State) : State :=
  if v ∈ externalTokens then s.evqPush v else s.refuse .token v

/-- `HostWriteArg(v)` (10_state R24). -/
def hostWriteArg (v : Word) (s : State) : State := { s with arg := v }

/-- A host write of a given width (R24, R67, R91, R252); every other location refuses it (R68). -/
def hostWrite (a : Addr) (w : Width) (v : Word) (s : State) : Result :=
  match locate s.params a.toNat w with
  | some (.reg .cmd) => hostIssue v s
  | some (.reg .arg) => .next (hostWriteArg v s)
  | some (.reg .evqPush) => .next (hostPushExt v s)
  | some (.sb a) => .next (s.setMem (s.mem.writeHalf a (v.setWidth 16)))
  | _ => .next (s.refuseAccess a)

/-- The step a host operation is (R5, R284). -/
def hostStep (op : HostOp) (s : State) : Result :=
  match op with
  | .read a w => .next (hostRead a w s)
  | .write a w v => hostWrite a w v s
  | .reset => .next s.afterReset

/-- The operation is a 32-bit write to `CMD` (R22). -/
def HostOp.isIssue : HostOp → Bool
  | .write a .word _ => a == 0x000#18
  | _ => false

/-- The write is held on the bus: a `CMD` write while `BUSY = 1` and `HALT = 0` (30_encoding R91, R92). -/
def State.holds (s : State) (op : HostOp) : Bool := op.isIssue && s.busy && !s.halt

/-- The host's turn: its next operation is performed, or held and kept (R92; log entry 2). -/
def hostTurn (s : State) : Result :=
  match s.hostOps with
  | [] => .next s
  | op :: ops => if s.holds op then .next s else hostStep op (s.setHostOps ops)

/-- The turn of `CP`: `RefillWord`, enabled exactly when `BUSY = 1` (40_transfer_ring R124; log entry 1). -/
def cpTurn (s : State) : Result := if s.busy then .next (refillWord s) else .next s

/-- The turn of `DS`: `Tick`, enabled exactly when `RUNNING = 1` (44_dma_scheduler R203; log entry 1). -/
def dsTurn (s : State) : Result := if s.running then tick s else .next s

/-- The turn of an agent (R5). -/
def agentTurn (g : Agent) (s : State) : Result :=
  match g with
  | .host => hostTurn s
  | .cp => cpTurn s
  | .ds => dsTurn s

/-- The agent the schedule names takes its turn; with nothing scheduled nothing happens (R6, U4; log
entry 1). -/
def scheduledStep (s : State) : Result :=
  match s.turns with
  | [] => .next s
  | g :: rest => agentTurn g (s.beginTurn rest)

/-- `HostIssue(w)` as a bus operation (R5, 10_state R22). -/
def HostOp.issue (w : Word) : HostOp := .write 0x000#18 .word w

/-- `HostWriteArg(v)` as a bus operation (R24). -/
def HostOp.writeArg (v : Word) : HostOp := .write 0x004#18 .word v

/-- `HostPop` as a bus operation (60_exceptions R250). -/
def HostOp.pop : HostOp := .read 0x030#18 .word

/-- `HostPushExt(v)` as a bus operation (R252). -/
def HostOp.pushExt (v : Word) : HostOp := .write 0x034#18 .word v

/-- `HostRead` of a 32-bit location (20_memory R66). -/
def HostOp.readWord (a : Addr) : HostOp := .read a .word

/-- `HostWriteSB(h, c, i, v)` as a bus operation (20_memory R67). -/
def HostOp.writeSb (p : Params) (h c : Bit) (i : Nat) (v : Half) : HostOp :=
  .write (BitVec.ofNat 18 (sbAddr p h c i)) .half (0#16 ++ v)

end Sys2Proof.Machine
end

