-- ==== Sys2Proof/Machine/Step.lean ====
section
/-! DEFINITION. One step of the block, and how one command word is put before it (log entry 11). -/

namespace Sys2Proof.Machine

/-- One atomic step (00_scope R5, 20_memory R71): the turn of the agent the schedule names. -/
def step : State → Host.Outcome State Fault Refusal := scheduledStep

/-- The state in which the very next step is `HostIssue` of the word: the host is to write it to `CMD`
and has the next turn (10_state R22, 30_encoding R91; log entry 11). -/
def State.withFetchWord (s : State) (nbits w : Nat) : State :=
  { s with
    turns := .host :: s.turns
    hostOps := HostOp.issue (BitVec.ofNat 32 (w % 2 ^ nbits)) :: s.hostOps }

end Sys2Proof.Machine
end

