-- ==== Sys2Proof/Machine/HostSequences.lean ====
section
/-! DEFINITION. The host's procedures as the bus operations they expand to (42_staging R163, R164; 45_host_sequences R220 to R227). They constrain the host, not the block (R220): no step reads them. -/

namespace Sys2Proof.Machine

/-- One stereo frame of raw samples a SampleSource yields; a mono source yields `left` (42_staging R163). -/
structure Frame where
  left : Half
  right : Half
  deriving DecidableEq, Repr

/-- The writes of one frame into index `i` of half `h` (R163, R164). -/
def writeFrame (p : Params) (mono : Bool) (h : Bit) (i : Nat) (f : Frame) : List HostOp :=
  HostOp.writeSb p h 0#1 i f.left :: (if mono then [] else [HostOp.writeSb p h 1#1 i f.right])

/-- Fill half `h` with frames `0 .. S-1` of a source, in ascending order (R163, R164). -/
def fillHalf (p : Params) (mono : Bool) (h : Bit) (src : Nat → Frame) : List HostOp :=
  (List.range p.s).flatMap (fun i => writeFrame p mono h i (src i))

/-- `CREATE(src)` (R163): half 0 completely, then half 1. -/
def createOps (p : Params) (mono : Bool) (src : Nat → Frame) : List HostOp :=
  fillHalf p mono 0#1 src ++ fillHalf p mono 1#1 (fun i => src (p.s + i))

/-- The read of `RING` that opens `POPULATE_NEXT` (R164). -/
def readRing : HostOp := HostOp.readWord 0x014#18

/-- `POPULATE_NEXT(src)` after `ring` was read (R164): fill the half that has just been drained, in the mode
`RING.MONO` gives. -/
def populateNextOps (p : Params) (ring : Word) (src : Nat → Frame) : List HostOp :=
  fillHalf p (ring.getLsbD 3) (Bit.other (ring.extractLsb' 4 1)) src

/-- `DRAIN` of a queue that holds `queued` tokens, output stopped (R226): pop until `EMPTY`. -/
def drainOps (queued : Nat) : List HostOp := List.replicate (queued + 1) HostOp.pop

/-- The tokens the hardware pushes, which `DRAIN` discards (R226). -/
def hardwareTokens : List Word := [tokenTransferDone 0#1, tokenTransferDone 1#1, tokenStagingReq]

/-- What `DRAIN` keeps aside of the values it popped, to be handled later (R226). -/
def keptTokens (popped : List Word) : List Word :=
  popped.filter (fun t => decide (t ≠ tokenEmpty ∧ t ∉ hardwareTokens))

/-- The operand word of `INIT` and `RECONFIGURE` (30_encoding R97). -/
def argOf (c : RateConfig) : Word := c.divider ++ c.wrap

/-- The last steps of a source change, from `SETSRC` on (R224 steps 4a to 6). -/
def restartOps (p : Params) (c : RateConfig) (mono : Bool) (src : Nat → Frame) : List HostOp :=
  [HostOp.issue (encode (.setsrc c.repeatShift mono))] ++ createOps p mono src ++
    [HostOp.issue (encode (.refill 0#1)), HostOp.issue (encode (.refill 1#1)), HostOp.issue (encode .start)]

/-- `BOOT(pin, rate, src)` (R222); an unsupported rate goes no further. -/
def bootOps (p : Params) (pin : Byte) (rate : Nat) (mono : Bool) (src : Nat → Frame) : List HostOp :=
  match Config.configTable rate with
  | none => []
  | some c => [HostOp.writeArg (argOf c), HostOp.issue (encode (.init pin))] ++ restartOps p c mono src

/-- What `CHANGE_SOURCE` does once the lookup of the new source's rate has succeeded (R224 steps 3 to 6). -/
def applySourceOps (p : Params) (c : RateConfig) (mono : Bool) (src : Nat → Frame) : List HostOp :=
  [HostOp.writeArg (argOf c), HostOp.issue (encode .reconfigure)] ++ restartOps p c mono src

/-- `CHANGE_SOURCE(rate, src)` with `queued` tokens in the queue when output has stopped (R224). A
failed lookup leaves the block stopped (R227). -/
def changeSourceOps (p : Params) (queued rate : Nat) (mono : Bool) (src : Nat → Frame) : List HostOp :=
  [HostOp.issue (encode .stop)] ++ drainOps queued ++
    match Config.configTable rate with
    | none => []
    | some c => applySourceOps p c mono src

/-- `QUIT` (R225): the hardware part is `STOP`. -/
def quitOps : List HostOp := [HostOp.issue (encode .stop)]

/-- What `MAIN_LOOP` does with the token it popped (R223). -/
inductive LoopAction where
  | command (i : Instr)
  | populateNext
  | changeSource
  | quit
  | nothing
  | haltLoop
  deriving DecidableEq, Repr

/-- The case distinction of `MAIN_LOOP` (R223); anything that is no token halts the loop (60_exceptions R257). -/
def mainLoopAction (t : Word) : LoopAction :=
  if t = tokenTransferDone 0#1 then .command (.refill 0#1)
  else if t = tokenTransferDone 1#1 then .command (.refill 1#1)
  else if t = tokenStagingReq then .populateNext
  else if t = 0x00000010#32 then .command .volUp
  else if t = 0x00000011#32 then .command .volDown
  else if t = 0x00000012#32 then .changeSource
  else if t = 0x00000013#32 then .quit
  else if t = tokenEmpty then .nothing
  else .haltLoop

/-! ## The loop itself (R223): a process of the host's that decides its next bus operation at each of its turns -/

/-- A source of the controller's cycle, as far as it decides what reaches the block (R223, R224). -/
structure Source where
  rate : Nat
  mono : Bool
  deriving DecidableEq, Repr

/-- Where the loop stands once the operations it has decided on are done. -/
inductive LoopPoint where
  /-- At the head of the loop. -/
  | nextToken
  /-- The `POP` of the loop was the last operation: its value is the token. -/
  | popped
  /-- The read of `RING` that opens `POPULATE_NEXT` was the last operation (R164). -/
  | ringRead
  /-- A `POP` of `DRAIN` was the last operation (R226). -/
  | drained
  /-- The loop has been left, after `QUIT`. -/
  | left
  /-- The loop is halted, after a value that is no token. -/
  | halted
  deriving DecidableEq, Repr

/-- The host's own state while it runs `MAIN_LOOP`: nothing of the block. -/
structure MainLoop where
  /-- Operations decided on and not yet given to the bus. -/
  todo : List HostOp
  point : LoopPoint
  /-- Tokens `DRAIN` has kept aside (R226). -/
  kept : List Word
  /-- The place of the current source in the controller's cycle. -/
  source : Nat
  /-- Frames pulled from the current source so far. -/
  pulled : Nat
  deriving DecidableEq, Repr

/-- `CHANGE_SOURCE` to the next source of the cycle, as far as its first `POP` of `DRAIN` (R224 steps 1, 2). -/
def MainLoop.beginChange (l : MainLoop) : MainLoop :=
  { l with todo := [HostOp.issue (encode .stop), HostOp.pop], point := .drained, source := l.source + 1 }

/-- `CHANGE_SOURCE` after its `DRAIN` (R224 steps 2 to 6); a failed lookup restarts it with the next source of
the cycle, output still stopped (R227). The spec does not say whether the tokens `DRAIN` kept aside are handled
between the failure and the restart (R226, R227): the restart counts as the same sequence in progress, so they
wait until some source has been applied (DESIGN CHOICE; log entry 16). -/
def MainLoop.finishChange (p : Params) (cycle : Nat → Source) (frames : Nat → Nat → Frame) (l : MainLoop) : MainLoop :=
  match Config.configTable (cycle l.source).rate with
  | none => l.beginChange
  | some c =>
    { l with
      todo := applySourceOps p c (cycle l.source).mono (frames l.source)
      point := .nextToken
      pulled := 2 * p.s }

/-- The work for one token (R223). -/
def MainLoop.handle (l : MainLoop) (t : Word) : MainLoop :=
  match mainLoopAction t with
  | .command i => { l with todo := [HostOp.issue (encode i)], point := .nextToken }
  | .populateNext => { l with todo := [readRing], point := .ringRead }
  | .changeSource => l.beginChange
  | .quit => { l with todo := quitOps, point := .left }
  | .nothing => { l with point := .nextToken }
  | .haltLoop => { l with point := .halted }

/-- What the loop decides when every operation so far is done, from the level of `IRQ` and the value its last
read returned (R223): handle what `DRAIN` kept, else wait until `IRQ = 1` and `POP`. -/
def MainLoop.resume (p : Params) (cycle : Nat → Source) (frames : Nat → Nat → Frame) (irq : Bool) (last : Word)
    (l : MainLoop) : MainLoop :=
  match l.point with
  | .nextToken =>
    match l.kept with
    | t :: ts => MainLoop.handle { l with kept := ts } t
    | [] => if irq then { l with todo := [HostOp.pop], point := .popped } else l
  | .popped => l.handle last
  | .ringRead =>
    { l with
      todo := populateNextOps p last (fun i => frames l.source (l.pulled + i))
      point := .nextToken
      pulled := l.pulled + p.s }
  | .drained =>
    if last = tokenEmpty then l.finishChange p cycle frames
    else { l with todo := [HostOp.pop], kept := l.kept ++ keptTokens [last] }
  | .left => l
  | .halted => l

/-- Give the bus the first operation decided on, if there is one. -/
def MainLoop.offer (l : MainLoop) (s : State) : MainLoop × State :=
  match l.todo with
  | [] => (l, s)
  | op :: ops => ({ l with todo := ops }, s.setHostOps [op])

/-- What the loop does at a turn of the host's: nothing while its last operation is held on the bus (R92), else
offer the next, deciding first where nothing is decided on. -/
def MainLoop.feed (cycle : Nat → Source) (frames : Nat → Nat → Frame) (l : MainLoop) (s : State) : MainLoop × State :=
  match s.hostOps with
  | _ :: _ => (l, s)
  | [] =>
    match l.todo with
    | _ :: _ => l.offer s
    | [] => (l.resume s.params cycle frames s.irq (s.returned.getLastD 0#32)).offer s

/-- One step of the block whose host runs `MAIN_LOOP` (R223): at the host's turns the loop decides what the
host does, every other agent's turn is the block's alone. -/
def mainLoopStep (cycle : Nat → Source) (frames : Nat → Nat → Frame) (l : MainLoop) (s : State) : MainLoop × Result :=
  match s.turns with
  | .host :: _ => ((l.feed cycle frames s).1, scheduledStep (l.feed cycle frames s).2)
  | _ => (l, scheduledStep s)

/-- `k` such steps, stopping where the block stops. -/
def mainLoopRun (cycle : Nat → Source) (frames : Nat → Nat → Frame) : Nat → MainLoop → State → MainLoop × Result
  | 0, l, s => (l, .next s)
  | k + 1, l, s =>
    match mainLoopStep cycle frames l s with
    | (l', .next t) => mainLoopRun cycle frames k l' t
    | (l', .fault r) => (l', .fault r)
    | (l', .refused r) => (l', .refused r)

/-- The loop that opens with `BOOT(pin, rate, src)` of the first source of the cycle (R222); an unsupported rate
does not proceed. -/
def MainLoop.boot (p : Params) (pin : Byte) (cycle : Nat → Source) (frames : Nat → Nat → Frame) : MainLoop where
  todo := bootOps p pin (cycle 0).rate (cycle 0).mono (frames 0)
  point := if (Config.configTable (cycle 0).rate).isSome then .nextToken else .left
  kept := []
  source := 0
  pulled := 2 * p.s

end Sys2Proof.Machine
end

