-- ==== Sys2Proof/Safety.lean ====
section
/-! DEFINITION. What counts as a good state and a good run, in the terms statements use (10_state R40, 70_reset_and_hazards R283 to R297). -/

namespace Sys2Proof.Machine

/-- Every listed byte of memory lies in the TB or the SB window (20_memory R61). -/
abbrev State.memInWindows (s : State) : Prop :=
  ∀ c ∈ s.mem, (tbBase ≤ c.1 ∧ c.1 < tbBase + 8 * s.params.n) ∨ (sbBase ≤ c.1 ∧ c.1 < sbBase + 8 * s.params.s)

/-- The invariants of 10_state R40, one field each, with the bounds of the open parameters (00_scope R4)
and the canonical form of memory. -/
structure State.Inv (s : State) : Prop where
  paramsWf : s.params.wf = true
  memWf : s.mem.wf = true
  memWindows : s.memInWindows
  enMask : s.enMask = 0b0000#4 ∨ s.enMask = 0b1111#4
  runningInited : s.running = true → s.inited = true
  haltStopped : s.halt = true → s.enMask = 0b0000#4 ∧ s.busy = false ∧ s.err = .illegalCmd
  initedConfig : s.inited = true → 1 ≤ s.wrap.toNat ∧ s.descCanonical = true
  vol : s.vol.toNat ≤ Config.volOne
  cursor : s.cursor.toNat < s.halfWords
  pos : s.pos.toNat < s.params.n
  rfK : s.rfK.toNat < s.params.n
  rfKIdle : s.busy = false → s.rfK = 0#14
  busyInited : s.busy = true → s.inited = true
  evqLength : s.evq.length ≤ s.params.evqDepth
  evqTokens : ∀ t ∈ s.evq, t ∈ queueTokens

/-- A quiescent state: no hardware agent has an enabled step (R283). -/
def State.quiescent (s : State) : Bool := !s.running && !s.busy && !s.halt

/-- A run that ends here has faulted (R283). -/
def State.faulted (s : State) : Bool := s.halt

/-- A buffer is in flight, owned by the hardware (10_state R39 (c), 40_transfer_ring R120). -/
def State.inFlight (s : State) (i : Bit) : Bool := s.running && s.act == i

/-- Every byte of the word `TB[i][k]` has been written since reset. -/
abbrev State.tbWritten (s : State) (i : Bit) (k : Nat) : Prop :=
  ∀ j < 4, (s.mem.lookup (tbAddr s.params i k + j)).isSome = true

/-- Every byte of the sample `SB[h][c][i]` has been written since reset. -/
abbrev State.sbWritten (s : State) (h c : Bit) (i : Nat) : Prop :=
  ∀ j < 2, (s.mem.lookup (sbAddr s.params h c i + j)).isSome = true

/-- `CP` executes a command that arrives now: not ignored (`HALT`), not held (`BUSY`) (43_output_driver R175). -/
abbrev State.accepting (s : State) : Prop := s.halt = false ∧ s.busy = false

/-- The complete list of the causes of `E_STATE` (60_exceptions R243). -/
def stateCause (i : Instr) (s : State) : Bool :=
  match i with
  | .init _ => s.running
  | .reconfigure => s.running || !s.inited
  | .setsrc _ _ => s.running
  | .start => s.running || !s.inited
  | .refill _ => !s.inited
  | .nop => false
  | .stop => false
  | .volUp => false
  | .volDown => false
  | .setVol _ => false
  | .clrErr => false

/-- The complete list of the causes of `E_CONFIG` (60_exceptions R244). -/
def configCause (i : Instr) (s : State) : Bool :=
  match i with
  | .init _ => s.argWrap == 0#16
  | .reconfigure => s.argWrap == 0#16
  | .nop => false
  | .setsrc _ _ => false
  | .start => false
  | .stop => false
  | .refill _ => false
  | .volUp => false
  | .volDown => false
  | .setVol _ => false
  | .clrErr => false

/-- The next step of the machine is `Reset`: the host has the turn and `Reset` is its next operation. -/
def State.resetNext (s : State) : Bool := s.turns.head? == some .host && s.hostOps.head? == some .reset

/-- The next step of the machine is the host's and its operation is a write to `CMD`. -/
abbrev State.commandNext (s : State) : Prop :=
  s.turns.head? = some .host ∧ ∃ w, s.hostOps.head? = some (HostOp.issue w)

/-- The next step of the machine is the host's and its operation writes the word of `i` to `CMD`. -/
abbrev State.issuesNext (s : State) (i : Instr) : Prop :=
  s.turns.head? = some .host ∧ s.hostOps.head? = some (HostOp.issue (encode i))

/-- The word a refill that starts now produces as its word `k` (40_transfer_ring R125). -/
def State.refillWordAt (s : State) (k : Nat) : Word :=
  let g := s.cursor.toNat + k
  let h := s.curHalf ^^^ BitVec.ofNat 1 (g / s.halfWords)
  let i := (g % s.halfWords) >>> s.rs.toNat
  pack (s.scaled (s.sb h 0#1 i)) (s.scaled (s.sb h (if s.mono then 0#1 else 1#1) i))

/-- Every raw sample a refill that starts now reads has been written (40_transfer_ring R125, U1). -/
abbrev State.refillReadsWritten (s : State) : Prop :=
  ∀ k < s.params.n,
    s.sbWritten (s.curHalf ^^^ BitVec.ofNat 1 ((s.cursor.toNat + k) / s.halfWords)) 0#1
      (((s.cursor.toNat + k) % s.halfWords) >>> s.rs.toNat) ∧
    (s.mono = false →
      s.sbWritten (s.curHalf ^^^ BitVec.ofNat 1 ((s.cursor.toNat + k) / s.halfWords)) 1#1
        (((s.cursor.toNat + k) % s.halfWords) >>> s.rs.toNat))

/-- The queue after pushing the tokens of a list one after another: what fits, in order (R248). -/
def State.queueAfter (s : State) (ts : List Word) : List Word :=
  s.evq ++ ts.take (s.params.evqDepth - s.evq.length)

/-- `EVQ_OVF` after pushing the tokens of a list one after another (R248). -/
def State.ovfAfter (s : State) (ts : List Word) : Bool :=
  s.evqOvf || decide (s.params.evqDepth < s.evq.length + ts.length)

/-- Perform the host's operations one after another, no other agent between them. -/
def hostSteps : List HostOp → State → Result
  | [], s => .next s
  | op :: ops, s =>
    match hostStep op s with
    | .next t => hostSteps ops t
    | .fault r => .fault r
    | .refused r => .refused r

end Sys2Proof.Machine
end

