-- ==== Sys2Proof/Certificates/Slice0/Obligations.lean ====
section
/-! DEFINITION. The statements about the block. Each docstring names the rule of the spec it formalises. -/

open Sys2Proof Sys2Proof.Machine

/-! ## Encoding (30_encoding) -/

/-- Words written out from R93 and R94 decode to the commands they stand for, and two illegal ones do
not (R96). -/
def Obligations.DecodeOfSpecWords : Prop :=
  decodeWord 0x00000000#32 = .ok .nop ∧ decodeWord 0x010000FF#32 = .ok (.init 255#8) ∧
  decodeWord 0x03000101#32 = .ok (.setsrc 1#3 true) ∧ decodeWord 0x04000000#32 = .ok .start ∧
  decodeWord 0x06000001#32 = .ok (.refill 1#1) ∧ decodeWord 0x09001234#32 = .ok (.setVol 0x1234#16) ∧
  decodeWord 0x0A000000#32 = .ok .clrErr ∧ decodeWord 0x06000002#32 = .error (.reservedBit 0x06#8) ∧
  decodeWord 0x0B000000#32 = .error (.unassignedOp 0x0B#8)

/-- R93 to R95: the word of a command, every operand at every value, decodes to that command. -/
def Obligations.DecodeEncodeRoundTrip : Prop := ∀ i : Instr, decodeWord (encode i) = .ok i

/-- R96: a word that decodes is the one word of its command, so no bit of a word is ignored. -/
def Obligations.LegalWordsAreEncodings : Prop :=
  ∀ (w : Word) (i : Instr), decodeWord w = .ok i → encode i = w

/-- R94: no word selects two rows. -/
def Obligations.OpcodeRowsAreDisjoint : Prop :=
  ∀ (w : Word) (r r' : OpRow), r ∈ opcodeMap → r' ∈ opcodeMap → r.selects w = true → r'.selects w = true →
    r.matchBits = r'.matchBits ∧ r.mask = r'.mask

/-- R96: the illegal words are those with `op` in 0x0B..0xFF and those with a nonzero reserved bit of
their format (R93). -/
def Obligations.IllegalWordsAreTheReservedOnes : Prop :=
  ∀ w : Word, (∃ e, decodeWord w = .error e) ↔
    0x0B ≤ (w.extractLsb' 24 8).toNat ∨
    (w.extractLsb' 24 8 ∈ [0x00#8, 0x02#8, 0x04#8, 0x05#8, 0x07#8, 0x08#8, 0x0A#8] ∧ w.extractLsb' 0 24 ≠ 0#24) ∨
    (w.extractLsb' 24 8 = 0x01#8 ∧ w.extractLsb' 8 16 ≠ 0#16) ∨
    (w.extractLsb' 24 8 = 0x03#8 ∧ (w.extractLsb' 3 5 ≠ 0#5 ∨ w.extractLsb' 9 15 ≠ 0#15)) ∨
    (w.extractLsb' 24 8 = 0x06#8 ∧ w.extractLsb' 1 23 ≠ 0#23) ∨
    (w.extractLsb' 24 8 = 0x09#8 ∧ w.extractLsb' 16 8 ≠ 0#8)

/-! ## Issuing a command (30_encoding R91, R92, R96) -/

/-- R91: when the host has the turn, writes `w` to `CMD`, the block is neither halted nor busy and `w`
decodes to `i`, the step is `exec i`, with the turn and the operation taken and the free index advanced
(the model's own fields, log entries 1 to 3). -/
def Obligations.StepRunsTheDecodedCommand : Prop :=
  ∀ (s : State) (rest : List Agent) (ops : List HostOp) (w : Word) (i : Instr),
    s.turns = .host :: rest → s.hostOps = .write 0x000#18 .word w :: ops → s.accepting → decodeWord w = .ok i →
    step s = exec i { s with turns := rest, hostOps := ops, freeIdx := s.freeIdx + 1 }

/-- R96, R241: an illegal word written to `CMD` takes the fatal fault and changes nothing else. -/
def Obligations.IllegalWordTakesTheFatalFault : Prop :=
  ∀ (s : State) (rest : List Agent) (ops : List HostOp) (w : Word) (e : Illegal),
    s.turns = .host :: rest → s.hostOps = .write 0x000#18 .word w :: ops → s.accepting → decodeWord w = .error e →
    step s = .next { s with
      turns := rest, hostOps := ops, freeIdx := s.freeIdx + 1
      err := .illegalCmd, errInfo := w, halt := true, enMask := 0b0000#4 }

/-- R91: while `HALT = 1` a `CMD` write, legal or not, has no effect at all. -/
def Obligations.HaltedBlockIgnoresCommands : Prop :=
  ∀ (s : State) (rest : List Agent) (ops : List HostOp) (w : Word),
    s.turns = .host :: rest → s.hostOps = .write 0x000#18 .word w :: ops → s.halt = true →
    step s = .next { s with turns := rest, hostOps := ops, freeIdx := s.freeIdx + 1 }

/-- R92: while `BUSY = 1` a `CMD` write is held: it stays the host's next operation and changes nothing. -/
def Obligations.BusyBlockHoldsCommands : Prop :=
  ∀ (s : State) (rest : List Agent) (ops : List HostOp) (w : Word),
    s.turns = .host :: rest → s.hostOps = .write 0x000#18 .word w :: ops → s.halt = false → s.busy = true →
    step s = .next { s with turns := rest, freeIdx := s.freeIdx + 1 }

/-! ## The commands (40_transfer_ring, 41_volume_mixer, 43_output_driver) -/

/-- R176: `NOP` changes no state. -/
def Obligations.NopChangesNothing : Prop := ∀ s : State, s.accepting → exec .nop s = .next s

/-- R177: `INIT pin`, the refusals in their order and the whole effect, the canonical descriptors of R201
written out. -/
def Obligations.InitConfiguresTheOutput : Prop :=
  ∀ (s : State) (pin : Byte), s.accepting →
    (s.running = true → exec (.init pin) s = .next (s.refuse .state (0x010000#24 ++ pin))) ∧
    (s.running = false → s.arg.extractLsb' 0 16 = 0#16 →
      exec (.init pin) s = .next (s.refuse .config (0x010000#24 ++ pin))) ∧
    (s.running = false → s.arg.extractLsb' 0 16 ≠ 0#16 →
      exec (.init pin) s = .next { s with
        pin := pin
        wrap := s.arg.extractLsb' 0 16
        div := s.arg.extractLsb' 16 16
        desc0 := ⟨0x00010000#32, 0x00000028#32, BitVec.ofNat 32 s.params.n, 0x00000127#32⟩
        desc1 := ⟨BitVec.ofNat 32 (0x00010000 + 4 * s.params.n), 0x00000028#32, BitVec.ofNat 32 s.params.n, 0x00000027#32⟩
        inited := true })

/-- R178: `RECONFIGURE`, the refusals in their order and the whole effect. -/
def Obligations.ReconfigureChangesPeriodAndDivider : Prop :=
  ∀ s : State, s.accepting →
    (s.running = true ∨ s.inited = false → exec .reconfigure s = .next (s.refuse .state 0x02000000#32)) ∧
    (s.running = false → s.inited = true → s.arg.extractLsb' 0 16 = 0#16 →
      exec .reconfigure s = .next (s.refuse .config 0x02000000#32)) ∧
    (s.running = false → s.inited = true → s.arg.extractLsb' 0 16 ≠ 0#16 →
      exec .reconfigure s = .next { s with wrap := s.arg.extractLsb' 0 16, div := s.arg.extractLsb' 16 16 })

/-- R122: `SETSRC rs, mono`, refused while running, else the ring's parameters and pointers. -/
def Obligations.SetsrcRestartsTheRing : Prop :=
  ∀ (s : State) (rs : BitVec 3) (mono : Bool), s.accepting →
    (s.running = true → exec (.setsrc rs mono) s =
      .next (s.refuse .state (BitVec.ofNat 32 (0x03000000 + 256 * mono.toNat + rs.toNat)))) ∧
    (s.running = false → exec (.setsrc rs mono) s =
      .next { s with rs := rs, mono := mono, curHalf := 0#1, fillIdx := 0#1, cursor := 0#32 })

/-- R179: `START`, refused while running or before `INIT`, else all four enables in one step and output
from `TB[0][0]`. -/
def Obligations.StartArmsTheOutput : Prop :=
  ∀ s : State, s.accepting →
    (s.running = true ∨ s.inited = false → exec .start s = .next (s.refuse .state 0x04000000#32)) ∧
    (s.running = false → s.inited = true →
      exec .start s = .next { s with act := 0#1, pos := 0#14, enMask := 0b1111#4 })

/-- R180: `STOP` clears the four enables in one step and leaves everything else, in every state. -/
def Obligations.StopDisarmsTheOutput : Prop :=
  ∀ s : State, s.accepting → exec .stop s = .next { s with enMask := 0b0000#4 }

/-- R123: `REFILL idx`, refused before `INIT`, else the refill begins; which buffer is in flight does not
matter. -/
def Obligations.RefillStartsARefill : Prop :=
  ∀ (s : State) (idx : Bit), s.accepting →
    (s.inited = false → exec (.refill idx) s =
      .next (s.refuse .state (BitVec.ofNat 32 (0x06000000 + idx.toNat)))) ∧
    (s.inited = true → exec (.refill idx) s = .next { s with rfIdx := idx, rfK := 0#14, busy := true })

/-- R145: `VOL_UP` raises the volume by one step and saturates at `VOL_ONE` (10 here, R4). -/
def Obligations.VolUpSaturates : Prop :=
  ∀ s : State, s.accepting → exec .volUp s = .next { s with vol := BitVec.ofNat 16 (min (s.vol.toNat + 1) 10) }

/-- R146: `VOL_DOWN` lowers the volume by one step and saturates at 0. -/
def Obligations.VolDownSaturates : Prop :=
  ∀ s : State, s.accepting →
    exec .volDown s = .next { s with vol := if s.vol = 0#16 then 0#16 else s.vol - 1#16 }

/-- R147: `SET_VOL vol` sets the volume and saturates at `VOL_ONE`. -/
def Obligations.SetVolSaturates : Prop :=
  ∀ (s : State) (vol : Half), s.accepting →
    exec (.setVol vol) s = .next { s with vol := if vol.toNat ≤ 10 then vol else 10#16 }

/-- R181: `CLR_ERR` clears the latch and the overflow flag. -/
def Obligations.ClrErrRearmsTheLatch : Prop :=
  ∀ s : State, s.accepting → exec .clrErr s = .next { s with err := .none, errInfo := 0#32, evqOvf := false }

/-- R242: the first error is kept; a refusal does nothing else. -/
def Obligations.RefusalIsStickyFirst : Prop :=
  ∀ (s : State) (code : ErrCode) (info : Word),
    (s.err = .none → s.refuse code info = { s with err := code, errInfo := info }) ∧
    (s.err ≠ .none → s.refuse code info = s)

/-- R243, R244: over all commands, with the latch free, `E_STATE` and `E_CONFIG` are raised exactly on
the listed causes, and no other code is. -/
def Obligations.RefusalCausesAreTheListedOnes : Prop :=
  ∀ (i : Instr) (s t : State), s.accepting → s.err = .none → exec i s = .next t →
    (t.err = .state ↔ stateCause i s = true) ∧
    (t.err = .config ↔ stateCause i s = false ∧ configCause i s = true) ∧
    t.err ≠ .illegalCmd ∧ t.err ≠ .token ∧ t.err ≠ .access

/-- The frame of every command: no byte of memory, no output, no queue entry, nothing of the host's and
no parameter changes (R65, R175). -/
def Obligations.CommandsLeaveMemoryOutputAndQueue : Prop :=
  ∀ (i : Instr) (s t : State), exec i s = .next t →
    (∀ a, t.readByte a = s.readByte a) ∧ t.mem = s.mem ∧ t.cc = s.cc ∧ t.out = s.out ∧ t.evq = s.evq ∧
    t.arg = s.arg ∧ t.halt = s.halt ∧ t.params = s.params ∧ t.returned = s.returned ∧
    t.hostOps = s.hostOps ∧ t.turns = s.turns ∧ t.freeIdx = s.freeIdx

/-- The "written by" columns of R25 to R36 for commands: a field changes only by the commands named for it;
the error latch only by `CLR_ERR` and by a command with a cause of R243 or R244. -/
def Obligations.OnlyTheNamedCommandsWriteARegister : Prop :=
  ∀ (i : Instr) (s t : State), exec i s = .next t →
    (t.inited ≠ s.inited ∨ t.pin ≠ s.pin ∨ t.desc0 ≠ s.desc0 ∨ t.desc1 ≠ s.desc1 → ∃ pin, i = .init pin) ∧
    (t.wrap ≠ s.wrap ∨ t.div ≠ s.div → (∃ pin, i = .init pin) ∨ i = .reconfigure) ∧
    (t.enMask ≠ s.enMask → i = .start ∨ i = .stop) ∧
    (t.act ≠ s.act ∨ t.pos ≠ s.pos → i = .start) ∧
    (t.rs ≠ s.rs ∨ t.mono ≠ s.mono ∨ t.curHalf ≠ s.curHalf ∨ t.fillIdx ≠ s.fillIdx ∨ t.cursor ≠ s.cursor →
      ∃ rs mono, i = .setsrc rs mono) ∧
    (t.busy ≠ s.busy ∨ t.rfIdx ≠ s.rfIdx ∨ t.rfK ≠ s.rfK → ∃ idx, i = .refill idx) ∧
    (t.vol ≠ s.vol → i = .volUp ∨ i = .volDown ∨ ∃ v, i = .setVol v) ∧
    (t.evqOvf ≠ s.evqOvf → i = .clrErr) ∧
    (t.err ≠ s.err ∨ t.errInfo ≠ s.errInfo → i = .clrErr ∨ stateCause i s = true ∨ configCause i s = true)

/-! ## The volume mixer (41_volume_mixer) -/

/-- R142: `round_div(p, d)` is the integer nearest to `p / d`, a tie goes away from zero, and it is odd. -/
def Obligations.RoundDivIsNearestTiesAwayFromZero : Prop :=
  ∀ p d : Int, 1 ≤ d →
    2 * |d * roundDiv p d - p| ≤ d ∧ (2 * |d * roundDiv p d - p| = d → |p| < |d * roundDiv p d|) ∧
    roundDiv (-p) d = -roundDiv p d

/-- R141 and R144 (a): the result lies in `[0, WRAP]` and its 16 bits lose nothing of the integer, for
every `WRAP`, `VOL` and raw sample. -/
def Obligations.ScaleStaysInRange : Prop :=
  ∀ wrap vol raw : Half, ((scale wrap vol raw).toNat : Int) = scaleInt wrap vol raw ∧
    (scale wrap vol raw).toNat ≤ wrap.toNat

/-- R144 (b), (c), (d): at `VOL = VOL_ONE` the result is `min(raw, WRAP)`, at volume 0 it is `MID`, and
`MID` stays `MID` at every volume. -/
def Obligations.ScaleAtTheEndsOfTheVolume : Prop :=
  ∀ wrap vol raw : Half, (scale wrap 10#16 raw).toNat = min raw.toNat wrap.toNat ∧
    (scale wrap 0#16 raw).toNat = wrap.toNat / 2 ∧ (scale wrap vol (midOf wrap)).toNat = wrap.toNat / 2

/-- R144 (e): `scale` is non-decreasing in `raw`. -/
def Obligations.ScaleIsMonotone : Prop :=
  ∀ wrap vol raw raw' : Half, raw.toNat ≤ raw'.toNat → (scale wrap vol raw).toNat ≤ (scale wrap vol raw').toNat

/-- R144 (f): for `raw <= WRAP` the clamp never acts, and for a larger one it acts at the top only. -/
def Obligations.ScaleClampsOnlyAboveWrap : Prop :=
  ∀ wrap vol raw : Half, vol.toNat ≤ 10 →
    (raw.toNat ≤ wrap.toNat → ((scale wrap vol raw).toNat : Int) =
      roundDiv (((raw.toNat : Int) - (wrap.toNat / 2 : Nat)) * vol.toNat) 10 + (wrap.toNat / 2 : Nat)) ∧
    (wrap.toNat < raw.toNat → ((scale wrap vol raw).toNat : Int) =
      min (roundDiv (((raw.toNat : Int) - (wrap.toNat / 2 : Nat)) * vol.toNat) 10 + (wrap.toNat / 2 : Nat)) wrap.toNat)

/-- R144 (g): two samples at equal distances above and below `MID` scale to equal distances. -/
def Obligations.ScaleIsSymmetricAboutMid : Prop :=
  ∀ wrap vol raw raw' : Half, vol.toNat ≤ 10 → raw.toNat + raw'.toNat = 2 * (wrap.toNat / 2) →
    (scale wrap vol raw).toNat + (scale wrap vol raw').toNat = 2 * (wrap.toNat / 2)

/-! ## RefillWord (40_transfer_ring R124 to R126) -/

/-- R124: one `RefillWord`, the whole next state: the word stored and no other byte, the cursor with its
wrap and push, the refill's progress with its end. -/
def Obligations.RefillWordProducesOneWord : Prop :=
  ∀ s : State, s.Inv → s.busy = true → ∃ m : Memory,
    cpTurn s = .next { s with
      mem := m
      cursor := if s.cursor.toNat + 1 = s.params.s * 2 ^ s.rs.toNat then 0#32 else s.cursor + 1#32
      curHalf := if s.cursor.toNat + 1 = s.params.s * 2 ^ s.rs.toNat then 1#1 - s.curHalf else s.curHalf
      evq := if s.cursor.toNat + 1 = s.params.s * 2 ^ s.rs.toNat then s.queueAfter [0x00000002#32] else s.evq
      evqOvf := if s.cursor.toNat + 1 = s.params.s * 2 ^ s.rs.toNat then s.ovfAfter [0x00000002#32] else s.evqOvf
      rfK := if s.rfK.toNat + 1 = s.params.n then 0#14 else s.rfK + 1#14
      busy := if s.rfK.toNat + 1 = s.params.n then false else true
      fillIdx := if s.rfK.toNat + 1 = s.params.n then 1#1 - s.fillIdx else s.fillIdx } ∧
    State.tb { s with mem := m } s.rfIdx s.rfK.toNat =
      s.scaled (s.sb s.curHalf 0#1 (s.cursor.toNat / 2 ^ s.rs.toNat)) ++
      s.scaled (s.sb s.curHalf (if s.mono then 0#1 else 1#1) (s.cursor.toNat / 2 ^ s.rs.toNat)) ∧
    ∀ a, a < tbAddr s.params s.rfIdx s.rfK.toNat ∨ tbAddr s.params s.rfIdx s.rfK.toNat + 4 ≤ a →
      m.lookup a = s.mem.lookup a

/-- The frame of `RefillWord` (R65, R124): every byte outside the word stored, computed as the step
computes it, and every register the rule does not write. -/
def Obligations.RefillWordFrame : Prop :=
  ∀ s t : State, cpTurn s = .next t →
    (∀ a, a < tbAddr s.params s.rfIdx s.rfK.toNat ∨ tbAddr s.params s.rfIdx s.rfK.toNat + 4 ≤ a →
      t.readByte a = s.readByte a ∧ t.mem.lookup a = s.mem.lookup a) ∧
    t.params = s.params ∧ t.arg = s.arg ∧ t.inited = s.inited ∧ t.halt = s.halt ∧ t.enMask = s.enMask ∧
    t.err = s.err ∧ t.errInfo = s.errInfo ∧ t.wrap = s.wrap ∧ t.div = s.div ∧ t.rs = s.rs ∧ t.mono = s.mono ∧
    t.pin = s.pin ∧ t.vol = s.vol ∧ t.act = s.act ∧ t.pos = s.pos ∧ t.cc = s.cc ∧ t.rfIdx = s.rfIdx ∧
    t.desc0 = s.desc0 ∧ t.desc1 = s.desc1 ∧ t.out = s.out ∧ t.returned = s.returned ∧
    t.hostOps = s.hostOps ∧ t.turns = s.turns ∧ t.freeIdx = s.freeIdx

/-- R125: a whole refill in closed form, over `N` turns of `CP` from the state `REFILL` leaves, its
samples written. -/
def Obligations.RefillClosedForm : Prop :=
  ∀ (s : State) (rest : List Agent), s.Inv → s.busy = true → s.rfK = 0#14 → s.refillReadsWritten →
    s.turns = List.replicate s.params.n .cp ++ rest →
    ∃ t, Host.Core.run Sys2Proof.core s.params.n s = .next t ∧
      (∀ k < s.params.n, t.tb s.rfIdx k = s.refillWordAt k) ∧
      t.cursor.toNat = (s.cursor.toNat + s.params.n) % s.halfWords ∧
      t.curHalf = s.curHalf ^^^ BitVec.ofNat 1 ((s.cursor.toNat + s.params.n) / s.halfWords) ∧
      t.evq = s.queueAfter (List.replicate ((s.cursor.toNat + s.params.n) / s.halfWords) 0x00000002#32) ∧
      t.evqOvf = s.ovfAfter (List.replicate ((s.cursor.toNat + s.params.n) / s.halfWords) 0x00000002#32) ∧
      t.fillIdx = 1#1 - s.fillIdx ∧ t.busy = false ∧ t.rfK = 0#14 ∧ t.rfIdx = s.rfIdx ∧
      t.vol = s.vol ∧ t.wrap = s.wrap ∧ t.rs = s.rs ∧ t.mono = s.mono ∧ t.turns = rest

/-- R126: with the buffer being refilled not in flight, a `Tick` and a `RefillWord` commute, unless both
push a token. -/
def Obligations.TickAndRefillWordCommute : Prop :=
  ∀ s : State, s.Inv → s.busy = true → s.running = true → s.act ≠ s.rfIdx →
    (s.pos.toNat + 1 ≠ s.params.n ∨ s.cursor.toNat + 1 ≠ s.halfWords) →
    ∃ t, tick s = .next t ∧ tick (refillWord s) = .next (refillWord t)

/-- R126, R207, R290: the rest of a pass, from any position at which the refill of the other buffer has been
accepted, under every interleaving of the refill's `N` `RefillWord`s with the pass's `N - POS` remaining
`Tick`s: the pass outputs the rest of the buffer in flight word by word and the other buffer is wholly
refilled. -/
def Obligations.RefillWithinItsDeadlineIsGlitchFree : Prop :=
  ∀ (s : State) (sched rest : List Agent), s.Inv → s.busy = true → s.running = true → s.rfK = 0#14 →
    s.rfIdx ≠ s.act → s.refillReadsWritten → (∀ k, s.pos.toNat ≤ k → k < s.params.n → s.tbWritten s.act k) →
    s.turns = sched ++ rest → sched.count .cp = s.params.n → sched.count .ds = s.params.n - s.pos.toNat →
    sched.count .host = 0 →
    ∃ t, Host.Core.run Sys2Proof.core sched.length s = .next t ∧
      t.out = s.out ++ (List.range (s.params.n - s.pos.toNat)).map (fun k => s.tb s.act (s.pos.toNat + k)) ∧
      (∀ k < s.params.n, t.tb s.rfIdx k = s.refillWordAt k) ∧
      t.act = s.rfIdx ∧ t.pos = 0#14 ∧ t.busy = false ∧ t.running = true

/-! ## Tick (44_dma_scheduler) -/

/-- R203: one `Tick`, the whole next state: the word output, the position, and the pass's end with its
chaining and its token. -/
def Obligations.TickOutputsOneWord : Prop :=
  ∀ s : State, s.Inv → s.running = true →
    (s.pos.toNat + 1 ≠ s.params.n → dsTurn s = .next { s with
      cc := s.tb s.act s.pos.toNat, out := s.out ++ [s.tb s.act s.pos.toNat], pos := s.pos + 1#14 }) ∧
    (s.pos.toNat + 1 = s.params.n → dsTurn s = .next { s with
      cc := s.tb s.act s.pos.toNat, out := s.out ++ [s.tb s.act s.pos.toNat], pos := 0#14, act := 1#1 - s.act
      evq := s.queueAfter [if s.act = 0#1 then 0x00000001#32 else 0x00000101#32]
      evqOvf := s.ovfAfter [if s.act = 0#1 then 0x00000001#32 else 0x00000101#32] })

/-- The frame of `Tick` (R65, R203): no byte of memory and no register but those the rule writes. -/
def Obligations.TickFrame : Prop :=
  ∀ s t : State, dsTurn s = .next t →
    (∀ a, t.readByte a = s.readByte a) ∧ t.mem = s.mem ∧
    t.params = s.params ∧ t.arg = s.arg ∧ t.inited = s.inited ∧ t.busy = s.busy ∧ t.halt = s.halt ∧
    t.enMask = s.enMask ∧ t.err = s.err ∧ t.errInfo = s.errInfo ∧ t.wrap = s.wrap ∧ t.div = s.div ∧
    t.rs = s.rs ∧ t.mono = s.mono ∧ t.curHalf = s.curHalf ∧ t.fillIdx = s.fillIdx ∧ t.pin = s.pin ∧
    t.cursor = s.cursor ∧ t.vol = s.vol ∧ t.rfIdx = s.rfIdx ∧ t.rfK = s.rfK ∧ t.desc0 = s.desc0 ∧
    t.desc1 = s.desc1 ∧ t.returned = s.returned ∧ t.hostOps = s.hostOps ∧ t.turns = s.turns ∧
    t.freeIdx = s.freeIdx

/-- R202 and U6: `Tick` is defined only for canonical descriptors; with any other the model faults (log
entry 6). -/
def Obligations.TickStopsOnOtherDescriptors : Prop :=
  ∀ s : State, s.running = true →
    (s.desc0 ≠ canonicalDesc s.params 0#1 ∨ s.desc1 ≠ canonicalDesc s.params 1#1) →
    dsTurn s = .fault .descriptorNotCanonical

/-- R124, R203: `RefillWord` is not enabled while `BUSY = 0`, `Tick` not while `RUNNING = 0`; the model
lets such a turn pass (log entry 1). -/
def Obligations.DisabledAgentsDoNothing : Prop :=
  ∀ s : State, (s.busy = false → cpTurn s = .next s) ∧ (s.running = false → dsTurn s = .next s)

/-- R204, R206: from a start, `m` `Tick`s output the words of the two buffers in turn, `N` each, and push
the alternating tokens. -/
def Obligations.TicksStreamTheTwoBuffersInTurn : Prop :=
  ∀ (s : State) (m : Nat) (rest : List Agent), s.Inv → s.running = true → s.act = 0#1 → s.pos = 0#14 →
    (∀ i k, k < s.params.n → s.tbWritten i k) → s.turns = List.replicate m .ds ++ rest →
    ∃ t, Host.Core.run Sys2Proof.core m s = .next t ∧
      t.out = s.out ++ (List.range m).map (fun j => s.tb (BitVec.ofNat 1 (j / s.params.n)) (j % s.params.n)) ∧
      t.act = BitVec.ofNat 1 (m / s.params.n) ∧ t.pos.toNat = m % s.params.n ∧
      t.evq = s.queueAfter ((List.range (m / s.params.n)).map
        (fun q => if q % 2 = 0 then 0x00000001#32 else 0x00000101#32)) ∧
      t.mem = s.mem ∧ t.running = true

/-! ## The event queue and the host's accesses (20_memory, 60_exceptions) -/

/-- R248: `EvqPush` appends at the tail, or drops the token and sets `EVQ_OVF` when the queue is full. -/
def Obligations.EvqPushDropsWhenFull : Prop :=
  ∀ (s : State) (t : Word),
    (s.evq.length < s.params.evqDepth → s.evqPush t = { s with evq := s.evq ++ [t] }) ∧
    (s.params.evqDepth ≤ s.evq.length → s.evqPush t = { s with evqOvf := true })

/-- R250: a 32-bit read of `EVQ_POP` returns the head and removes it; an empty queue returns `EMPTY` and
nothing changes. -/
def Obligations.HostPopReturnsTheOldestToken : Prop :=
  ∀ s : State,
    (s.evq = [] → hostStep (.read 0x030#18 .word) s = .next { s with returned := s.returned ++ [0#32] }) ∧
    (∀ t q, s.evq = t :: q → hostStep (.read 0x030#18 .word) s =
      .next { s with evq := q, returned := s.returned ++ [t] })

/-- R252: `EVQ_PUSH` takes exactly the four external codes; anything else is refused with `E_TOKEN`. -/
def Obligations.HostPushTakesTheExternalCodesOnly : Prop :=
  ∀ (s : State) (v : Word),
    (v = 0x10#32 ∨ v = 0x11#32 ∨ v = 0x12#32 ∨ v = 0x13#32 →
      hostStep (.write 0x034#18 .word v) s = .next (s.evqPush v)) ∧
    (v ≠ 0x10#32 → v ≠ 0x11#32 → v ≠ 0x12#32 → v ≠ 0x13#32 →
      hostStep (.write 0x034#18 .word v) s = .next (s.refuse .token v))

/-- R24: a 32-bit write to `ARG` sets it, in every state, and has no other effect. -/
def Obligations.HostWriteArgSetsArg : Prop :=
  ∀ (s : State) (v : Word), hostStep (.write 0x004#18 .word v) s = .next { s with arg := v }

/-- R66 with the field layouts of R22 to R36: what a 32-bit read of each register returns; nothing else
changes. The layout is written as the sums of 95_test_vectors. The model's choices: where the value goes
(log entry 8), `EVQ_LEVEL` of a queue longer than its 32 bits, a free value (log entry 18), and that `CMD` and
`EVQ_PUSH` read 0 with no error (log entry 19). -/
def Obligations.HostReadsReturnTheRegisters : Prop :=
  ∀ s : State, ∀ r ∈ [
    (0x000, 0), (0x004, s.arg.toNat),
    (0x008, s.inited.toNat + 2 * (decide (s.enMask = 15#4)).toNat + 4 * s.busy.toNat + 8 * s.halt.toNat +
      16 * (decide (s.evq ≠ [])).toNat + 32 * s.evqOvf.toNat + 2 ^ 8 * s.enMask.toNat + 2 ^ 16 * s.err.code.toNat),
    (0x00C, s.errInfo.toNat), (0x010, 2 ^ 16 * s.div.toNat + s.wrap.toNat),
    (0x014, s.rs.toNat + 2 ^ 3 * s.mono.toNat + 2 ^ 4 * s.curHalf.toNat + 2 ^ 5 * s.fillIdx.toNat + 2 ^ 8 * s.pin.toNat),
    (0x018, s.cursor.toNat), (0x01C, s.vol.toNat), (0x020, s.wrap.toNat / 2),
    (0x024, s.act.toNat + 2 ^ 16 * s.pos.toNat), (0x028, s.cc.toNat), (0x02C, s.rfIdx.toNat + 2 ^ 16 * s.rfK.toNat),
    (0x034, 0),
    (0x038, if s.evq.length < 2 ^ 32 then s.evq.length else (Config.evqLevelOver s.freeIdx s.evq.length).toNat),
    (0x040, s.desc0.readAddr.toNat), (0x044, s.desc0.writeAddr.toNat), (0x048, s.desc0.count.toNat), (0x04C, s.desc0.ctrl.toNat),
    (0x050, s.desc1.readAddr.toNat), (0x054, s.desc1.writeAddr.toNat), (0x058, s.desc1.count.toNat), (0x05C, s.desc1.ctrl.toNat)],
    hostStep (.read (BitVec.ofNat 18 r.1) .word) s = .next { s with returned := s.returned ++ [BitVec.ofNat 32 r.2] }

/-- R61, R66: a 32-bit read of `TB[i][k]` and a 16-bit read of `SB[h][c][j]`, at the offsets of R61,
return the location's value (zero-extended, log entry 8); nothing else changes. -/
def Obligations.HostReadsReturnTheMemories : Prop :=
  ∀ (s : State), s.params.wf = true →
    (∀ (i : Bit) (k : Nat), k < s.params.n →
      hostStep (.read (BitVec.ofNat 18 (0x10000 + 4 * (i.toNat * s.params.n + k))) .word) s =
        .next { s with returned := s.returned ++ [s.tb i k] }) ∧
    (∀ (h c : Bit) (j : Nat), j < s.params.s →
      hostStep (.read (BitVec.ofNat 18 (0x20000 + 2 * ((2 * h.toNat + c.toNat) * s.params.s + j))) .half) s =
        .next { s with returned := s.returned ++ [(s.sb h c j).setWidth 32] })

/-- R67: `HostWriteSB(h, c, j, v)` stores the sample and nothing else: every other byte reads as before
and no register changes. -/
def Obligations.HostWriteSbStoresOneSample : Prop :=
  ∀ (s : State) (h c : Bit) (j : Nat) (v : Half), s.params.wf = true → j < s.params.s →
    ∃ m, hostStep (HostOp.writeSb s.params h c j v) s = .next { s with mem := m } ∧
      State.sb { s with mem := m } h c j = v ∧
      ∀ a, a < sbAddr s.params h c j ∨ sbAddr s.params h c j + 2 ≤ a → m.lookup a = s.mem.lookup a

/-- R68: an access that is misaligned, of the wrong width or unmapped, and a write to a read-only location
(the status registers, `EVQ_POP`, `EVQ_LEVEL`, the descriptors, the TB window), are refused with
`E_ACCESS`: a read returns 0 and a write changes nothing at its target. The model's own: that an 8-bit access
exists and is of a wrong width (R63, log entry 7), and that the 0 a read returns is listed in `returned` (log
entry 8). -/
def Obligations.RefusedAccessesHaveNoEffect : Prop :=
  ∀ (s : State) (a : Addr) (w : Width),
    ((w = .byte ∨
      (w = .half ∧ ¬(a.toNat % 2 = 0 ∧ 0x20000 ≤ a.toNat ∧ a.toNat < 0x20000 + 8 * s.params.s)) ∨
      (w = .word ∧ ¬(a.toNat % 4 = 0 ∧ (a.toNat ≤ 0x38 ∨ (0x40 ≤ a.toNat ∧ a.toNat ≤ 0x5C) ∨
        (0x10000 ≤ a.toNat ∧ a.toNat < 0x10000 + 8 * s.params.n))))) →
      hostStep (.read a w) s = .next ((s.refuse .access (a.setWidth 32)).giveHost 0#32) ∧
      ∀ v, hostStep (.write a w v) s = .next (s.refuse .access (a.setWidth 32))) ∧
    (a.toNat % 4 = 0 → (0x08 ≤ a.toNat ∧ a.toNat ≤ 0x30) ∨ a.toNat = 0x38 ∨ (0x40 ≤ a.toNat ∧ a.toNat ≤ 0x5C) ∨
        (0x10000 ≤ a.toNat ∧ a.toNat < 0x10000 + 8 * s.params.n) →
      ∀ v, hostStep (.write a .word v) s = .next (s.refuse .access (a.setWidth 32)))

/-- R61: the windows do not overlap and no two TB words or SB samples share a byte. -/
def Obligations.MemoryLocationsAreDisjoint : Prop :=
  ∀ p : Params, p.wf = true →
    (∀ (i i' : Bit) (k k' : Nat), k < p.n → k' < p.n → (i, k) ≠ (i', k') →
      tbAddr p i k + 4 ≤ tbAddr p i' k' ∨ tbAddr p i' k' + 4 ≤ tbAddr p i k) ∧
    (∀ (h h' c c' : Bit) (j j' : Nat), j < p.s → j' < p.s → (h, c, j) ≠ (h', c', j') →
      sbAddr p h c j + 2 ≤ sbAddr p h' c' j' ∨ sbAddr p h' c' j' + 2 ≤ sbAddr p h c j) ∧
    (∀ (i h c : Bit) (k j : Nat), k < p.n → j < p.s →
      0x60 ≤ tbAddr p i k ∧ tbAddr p i k + 4 ≤ sbAddr p h c j ∧ sbAddr p h c j + 2 ≤ 0x40000)

/-! ## Reset (10_state R41, 70_reset_and_hazards R280) -/

/-- R41: the reset state, field by field, with memory unwritten. -/
def Obligations.ResetStateIsTheTable : Prop :=
  let s := State.reset
  s.arg = 0#32 ∧ s.inited = false ∧ s.busy = false ∧ s.halt = false ∧ s.evqOvf = false ∧ s.enMask = 0#4 ∧
  s.err = .none ∧ s.errInfo = 0#32 ∧ s.wrap = 0#16 ∧ s.div = 0#16 ∧ s.mid = 0#16 ∧ s.rs = 0#3 ∧ s.mono = false ∧
  s.curHalf = 0#1 ∧ s.fillIdx = 0#1 ∧ s.pin = 0#8 ∧ s.cursor = 0#32 ∧ s.vol = 8#16 ∧ s.act = 0#1 ∧ s.pos = 0#14 ∧
  s.cc = 0#32 ∧ s.rfIdx = 0#1 ∧ s.rfK = 0#14 ∧ s.evq = [] ∧ s.desc0 = ⟨0#32, 0#32, 0#32, 0#32⟩ ∧
  s.desc1 = ⟨0#32, 0#32, 0#32, 0#32⟩ ∧ (∀ a, s.mem.lookup a = none) ∧ s.out = []

/-- R280: `Reset`, from any state, gives the reset table again; the parameters, the schedule, the host's
operations and the free index, no state of the block, stay (log entry 9). -/
def Obligations.ResetStepRestoresTheTable : Prop :=
  ∀ s : State, hostStep .reset s =
    .next { State.reset with params := s.params, hostOps := s.hostOps, turns := s.turns, freeIdx := s.freeIdx }

/-! ## The whole machine -/

/-- R40: every step keeps the invariants. -/
def Obligations.StepKeepsTheInvariants : Prop :=
  ∀ s t : State, s.Inv → step s = .next t → t.Inv

/-- R40, R41: the reset state meets the invariants. -/
def Obligations.ResetMeetsTheInvariants : Prop := State.reset.Inv

/-- R202, R205: in a state that meets the invariants no step stops. -/
def Obligations.GoodStatesNeverStop : Prop := ∀ s : State, s.Inv → ∃ t, step s = .next t

/-- R241: a halted block stays halted, silent and disarmed at every step but `Reset`. -/
def Obligations.HaltIsLeftOnlyByReset : Prop :=
  ∀ s t : State, s.Inv → s.halt = true → s.resetNext = false → step s = .next t →
    t.halt = true ∧ t.enMask = 0b0000#4 ∧ t.busy = false ∧ t.out = s.out ∧ t.cc = s.cc ∧
    t.err = s.err ∧ t.errInfo = s.errInfo ∧ t.vol = s.vol ∧ t.act = s.act ∧ t.pos = s.pos

/-- R65, row by row, but for `Reset`: `CC` is written by `DS`, TB by `CP`'s `RefillWord`, SB and `ARG` by the
host, `ACT` and `POS` by `DS` and `START`, the descriptors by `INIT`, the other registers by commands, of them
what a refill advances by `RefillWord` too; the latch also by the host's refused accesses (R68, R252); each
agent pushes its own tokens only, and `EVQ_OVF` is set by a full queue alone. -/
def Obligations.EachAgentWritesOnlyItsOwn : Prop :=
  ∀ s t : State, s.Inv → s.resetNext = false → step s = .next t →
    (t.cc ≠ s.cc ∨ t.out ≠ s.out → s.turns.head? = some .ds) ∧
    ((∃ a, a < sbBase ∧ t.mem.lookup a ≠ s.mem.lookup a) → s.turns.head? = some .cp) ∧
    ((∃ a, sbBase ≤ a ∧ t.mem.lookup a ≠ s.mem.lookup a) → s.turns.head? = some .host) ∧
    (t.arg ≠ s.arg → s.turns.head? = some .host) ∧
    (t.act ≠ s.act ∨ t.pos ≠ s.pos → s.turns.head? = some .ds ∨ s.issuesNext .start) ∧
    (t.desc0 ≠ s.desc0 ∨ t.desc1 ≠ s.desc1 → ∃ pin, s.issuesNext (.init pin)) ∧
    (t.inited ≠ s.inited ∨ t.pin ≠ s.pin ∨ t.wrap ≠ s.wrap ∨ t.div ≠ s.div ∨ t.rs ≠ s.rs ∨ t.mono ≠ s.mono ∨
      t.vol ≠ s.vol ∨ t.enMask ≠ s.enMask ∨ t.halt ≠ s.halt → s.commandNext) ∧
    (t.cursor ≠ s.cursor ∨ t.curHalf ≠ s.curHalf ∨ t.fillIdx ≠ s.fillIdx ∨ t.busy ≠ s.busy ∨ t.rfIdx ≠ s.rfIdx ∨
      t.rfK ≠ s.rfK → s.commandNext ∨ s.turns.head? = some .cp) ∧
    (t.err ≠ s.err ∨ t.errInfo ≠ s.errInfo → s.turns.head? = some .host) ∧
    (s.turns.head? = some .ds → t.evq = s.evq ∨
      t.evq = s.evq ++ [if s.act = 0#1 then 0x00000001#32 else 0x00000101#32]) ∧
    (s.turns.head? = some .cp → t.evq = s.evq ∨ t.evq = s.evq ++ [0x00000002#32]) ∧
    (s.turns.head? = some .host → t.evq = s.evq ∨ t.evq = s.evq.tail ∨ ∃ u ∈ externalTokens, t.evq = s.evq ++ [u]) ∧
    (s.evqOvf = false → t.evqOvf = true → s.evq.length = s.params.evqDepth) ∧
    (s.evqOvf = true → t.evqOvf = false → s.issuesNext .clrErr) ∧ t.params = s.params

/-- R248, R250: in every step but `Reset` the queue stays, or gains one legal token at its tail, or loses
its head to a 32-bit read of `EVQ_POP`. -/
def Obligations.TokensEnterAtTheTailAndLeaveByPop : Prop :=
  ∀ s t : State, s.resetNext = false → step s = .next t →
    t.evq = s.evq ∨ (∃ u ∈ queueTokens, t.evq = s.evq ++ [u]) ∨
    (s.turns.head? = some .host ∧ s.hostOps.head? = some (.read 0x030#18 .word) ∧ t.evq = s.evq.tail)

/-- R73 (d), R129: while a refill is in progress the volume and the other operands of the mixer do not
change, but for `Reset`. -/
def Obligations.MixerOperandsAreConstantDuringARefill : Prop :=
  ∀ s t : State, s.Inv → s.busy = true → s.resetNext = false → step s = .next t →
    t.vol = s.vol ∧ t.wrap = s.wrap ∧ t.rs = s.rs ∧ t.mono = s.mono

/-- R163: after `CREATE` every sample of both halves the mode uses is the source's, in order: half 0
holds its frames 0 to S-1, half 1 the next S. -/
def Obligations.CreateFillsBothHalves : Prop :=
  ∀ (s : State) (mono : Bool) (src : Nat → Frame), s.params.wf = true →
    ∃ m, hostSteps (createOps s.params mono src) s = .next { s with mem := m } ∧
      ∀ (h : Bit) (j : Nat), j < s.params.s →
        State.sb { s with mem := m } h 0#1 j = (src (h.toNat * s.params.s + j)).left ∧
        (mono = false → State.sb { s with mem := m } h 1#1 j = (src (h.toNat * s.params.s + j)).right)

/-- R223: what a host that runs `MAIN_LOOP` does at its turn, its last operation done: it waits while `IRQ` is
0, pops one token else, does that token's work, and has stopped for good once left or halted. The loop's own
state is the model's form of it (log entry 16). -/
def Obligations.MainLoopServesTheQueue : Prop :=
  ∀ (cycle : Nat → Source) (frames : Nat → Nat → Frame) (l : MainLoop) (s : State) (rest : List Agent),
    l.todo = [] → s.hostOps = [] → s.turns = .host :: rest →
    let r := mainLoopStep cycle frames l s
    let s' := { s with turns := rest, freeIdx := s.freeIdx + 1 }
    (l.point = .nextToken → l.kept = [] → s.evq = [] → r = (l, .next s')) ∧
    (∀ t q, l.point = .nextToken → l.kept = [] → s.evq = t :: q →
      r = ({ l with point := .popped }, .next { s' with evq := q, returned := s.returned ++ [t] })) ∧
    (∀ t, l.point = .popped → s.returned.getLast? = some t → s.accepting →
      (∀ i : Bit, t = BitVec.ofNat 32 (1 + 256 * i.toNat) → r = ({ l with point := .nextToken }, exec (.refill i) s')) ∧
      (t = 0x2#32 → r = ({ l with point := .ringRead }, .next { s' with returned := s.returned ++ [s.ringWord] })) ∧
      (t = 0x10#32 → r = ({ l with point := .nextToken }, exec .volUp s')) ∧
      (t = 0x11#32 → r = ({ l with point := .nextToken }, exec .volDown s')) ∧
      (t = 0x12#32 → r = ({ l with todo := [.pop], point := .drained, source := l.source + 1 }, exec .stop s')) ∧
      (t = 0x13#32 → r = ({ l with point := .left }, exec .stop s')) ∧
      (t = 0x0#32 → r = ({ l with point := .nextToken }, .next s')) ∧
      (t ≠ 0x0#32 → t ∉ queueTokens → r = ({ l with point := .halted }, .next s'))) ∧
    (l.point = .left ∨ l.point = .halted → r = (l, .next s'))
end

