-- ==== Sys2Proof/Laws/HostLoop.lean ====
section
/-! SUPPORT. What one step of the block with a host that runs `MAIN_LOOP` can do (45_host_sequences R223). -/

namespace Sys2Proof.Machine

variable {cycle : Nat → Source} {frames : Nat → Nat → Frame} {l : MainLoop} {s : State}

/-- The turn of another agent is the block's alone. -/
theorem mainLoopStep_other (h : s.turns.head? ≠ some .host) :
    mainLoopStep cycle frames l s = (l, scheduledStep s) := by
  unfold mainLoopStep
  split
  · next rest e => simp [e] at h
  · rfl

theorem mainLoopStep_host {rest : List Agent} (h : s.turns = .host :: rest) :
    mainLoopStep cycle frames l s = ((l.feed cycle frames s).1, scheduledStep (l.feed cycle frames s).2) := by
  simp [mainLoopStep, h]

/-- A held operation keeps the loop where it is (R92). -/
theorem MainLoop.feed_held (h : s.hostOps ≠ []) : l.feed cycle frames s = (l, s) := by
  unfold MainLoop.feed
  split
  · rfl
  · contradiction

/-- With something decided on, the loop offers it. -/
theorem MainLoop.feed_todo {op : HostOp} {ops : List HostOp} (h : s.hostOps = []) (hl : l.todo = op :: ops) :
    l.feed cycle frames s = ({ l with todo := ops }, s.setHostOps [op]) := by
  simp [MainLoop.feed, MainLoop.offer, h, hl]

/-- With nothing decided on, the loop decides and offers. -/
theorem MainLoop.feed_resume (h : s.hostOps = []) (hl : l.todo = []) :
    l.feed cycle frames s = (l.resume s.params cycle frames s.irq (s.returned.getLastD 0#32)).offer s := by
  simp [MainLoop.feed, h, hl]

/-- Offering changes nothing of the block but the host's next operation. -/
theorem MainLoop.offer_eq : (l.offer s).2 = s.setHostOps (l.offer s).2.hostOps := by
  unfold MainLoop.offer
  split <;> rfl

/-- The loop never touches the block but through the operation it offers. -/
theorem MainLoop.feed_eq : (l.feed cycle frames s).2 = s.setHostOps (l.feed cycle frames s).2.hostOps := by
  unfold MainLoop.feed
  split
  · rfl
  · split <;> exact MainLoop.offer_eq

/-- The turn in which the loop offers an operation that is not held performs it. -/
theorem scheduledStep_offered {op : HostOp} {rest : List Agent} (h : s.turns = .host :: rest)
    (hh : s.holds op = false) :
    scheduledStep (s.setHostOps [op]) =
      hostStep op { s with turns := rest, freeIdx := s.freeIdx + 1, hostOps := [] } := by
  have hs : State.holds { s with turns := rest, freeIdx := s.freeIdx + 1, hostOps := [op] } op = false := hh
  simp [scheduledStep, State.setHostOps, h, agentTurn, hostTurn, State.beginTurn, hs]

end Sys2Proof.Machine
end

