-- ==== Sys2Proof/Laws/Memory.lean ====
section
/-! SUPPORT. Memory: a read after a write, and that every memory operation keeps the canonical form. -/

namespace Sys2Proof.Machine

/-- Every listed offset is at least `lo`. -/
def Memory.above (lo : Nat) (m : Memory) : Prop := ∀ c ∈ m, lo ≤ c.1

theorem Memory.wf_tail {c : Host.Cell} {m : Memory} (h : Memory.wf (c :: m) = true) : Memory.wf m = true := by
  cases m with
  | nil => rfl
  | cons c' m => simp_all [Memory.wf]

theorem Memory.wf_cons_iff (c : Host.Cell) (m : Memory) :
    Memory.wf (c :: m) = true ↔ Memory.above (c.1 + 1) m ∧ Memory.wf m = true := by
  induction m generalizing c with
  | nil => simp [Memory.wf, Memory.above]
  | cons d m ih =>
    simp only [Memory.wf, Bool.and_eq_true, decide_eq_true_eq, ih d, Memory.above, List.forall_mem_cons]
    constructor
    · rintro ⟨hlt, hab, hwf⟩
      exact ⟨⟨hlt, fun e he => by have := hab e he; omega⟩, hab, hwf⟩
    · rintro ⟨⟨hlt, -⟩, hab, hwf⟩
      exact ⟨hlt, hab, hwf⟩

theorem Memory.mem_write {m : Memory} {a : Nat} {b : Byte} {c : Host.Cell} (h : c ∈ m.write a b) :
    c = (a, b) ∨ c ∈ m := by
  induction m with
  | nil => simpa [Memory.write] using h
  | cons d m ih =>
    rw [Memory.write] at h
    split at h
    · simpa using h
    · split at h
      · rcases List.mem_cons.1 h with h | h
        · exact .inl h
        · exact .inr (List.mem_cons_of_mem _ h)
      · rcases List.mem_cons.1 h with h | h
        · exact .inr (h ▸ List.mem_cons_self)
        · exact (ih h).imp_right (List.mem_cons_of_mem _)

/-- A write of one byte keeps the canonical form. -/
theorem Memory.wf_write {m : Memory} (a : Nat) (b : Byte) (h : m.wf = true) : (m.write a b).wf = true := by
  induction m with
  | nil => rfl
  | cons c m ih =>
    have hc := (Memory.wf_cons_iff c m).1 h
    rw [Memory.write]
    split
    · next hlt =>
      refine (Memory.wf_cons_iff _ _).2 ⟨?_, h⟩
      intro e he
      rcases List.mem_cons.1 he with rfl | he
      · exact hlt
      · have := hc.1 e he
        omega
    · split
      · next heq => exact (Memory.wf_cons_iff _ _).2 ⟨by simpa [heq] using hc.1, hc.2⟩
      · refine (Memory.wf_cons_iff _ _).2 ⟨?_, ih hc.2⟩
        intro e he
        rcases Memory.mem_write he with rfl | he
        · simp only; omega
        · exact hc.1 e he

theorem Memory.wf_writeHalf {m : Memory} (a : Nat) (v : Half) (h : m.wf = true) : (m.writeHalf a v).wf = true :=
  Memory.wf_write _ _ (Memory.wf_write _ _ h)

theorem Memory.wf_writeWord {m : Memory} (a : Nat) (v : Word) (h : m.wf = true) : (m.writeWord a v).wf = true :=
  Memory.wf_write _ _ (Memory.wf_write _ _ (Memory.wf_write _ _ (Memory.wf_write _ _ h)))

theorem Memory.lookup_cons (c : Nat) (d : Byte) (m : Memory) (x : Nat) :
    List.lookup x ((c, d) :: m) = if x = c then some d else List.lookup x m := by
  rw [List.lookup]
  by_cases h : x = c
  · rw [if_pos h, beq_iff_eq.2 h]
  · rw [if_neg h, beq_eq_false_iff_ne.2 h]

/-- Reading an offset after a byte write: the byte written there, elsewhere what was there before. -/
theorem Memory.lookup_write (m : Memory) (a : Nat) (b : Byte) (x : Nat) :
    (m.write a b).lookup x = if x = a then some b else m.lookup x := by
  induction m with
  | nil => rw [Memory.write, Memory.lookup_cons]
  | cons c m ih =>
    obtain ⟨c, d⟩ := c
    rw [Memory.write]
    split
    · rw [Memory.lookup_cons]
    · split
      · next h =>
        subst h
        rw [Memory.lookup_cons, Memory.lookup_cons]
        split <;> rfl
      · next hne =>
        rw [Memory.lookup_cons, Memory.lookup_cons, ih]
        by_cases h : x = c
        · subst h
          rw [if_pos rfl, if_neg (fun e => hne e.symm), if_pos rfl]
        · rw [if_neg h, if_neg h]

theorem Memory.lookup_writeHalf (m : Memory) (a : Nat) (v : Half) (x : Nat) :
    (m.writeHalf a v).lookup x =
      if x = a + 1 then some (byteOf v 1) else if x = a then some (byteOf v 0) else m.lookup x := by
  simp [Memory.writeHalf, Memory.lookup_write]

theorem Memory.lookup_writeWord (m : Memory) (a : Nat) (v : Word) (x : Nat) :
    (m.writeWord a v).lookup x =
      if x = a + 3 then some (byteOf v 3) else if x = a + 2 then some (byteOf v 2)
      else if x = a + 1 then some (byteOf v 1) else if x = a then some (byteOf v 0) else m.lookup x := by
  simp [Memory.writeWord, Memory.lookup_write]

/-- A word write leaves every byte outside its four alone. -/
theorem Memory.lookup_writeWord_outside (m : Memory) (a : Nat) (v : Word) (x : Nat) (h : x < a ∨ a + 4 ≤ x) :
    (m.writeWord a v).lookup x = m.lookup x := by
  rw [Memory.lookup_writeWord, if_neg (by omega), if_neg (by omega), if_neg (by omega), if_neg (by omega)]

/-- A halfword write leaves every byte outside its two alone. -/
theorem Memory.lookup_writeHalf_outside (m : Memory) (a : Nat) (v : Half) (x : Nat) (h : x < a ∨ a + 2 ≤ x) :
    (m.writeHalf a v).lookup x = m.lookup x := by
  rw [Memory.lookup_writeHalf, if_neg (by omega), if_neg (by omega)]

theorem Memory.mem_writeWord {m : Memory} {a : Nat} {v : Word} {c : Host.Cell} (h : c ∈ m.writeWord a v) :
    (a ≤ c.1 ∧ c.1 < a + 4) ∨ c ∈ m := by
  rcases Memory.mem_write h with rfl | h
  · exact .inl (by simp only; omega)
  rcases Memory.mem_write h with rfl | h
  · exact .inl (by simp only; omega)
  rcases Memory.mem_write h with rfl | h
  · exact .inl (by simp only; omega)
  rcases Memory.mem_write h with rfl | h
  · exact .inl (by simp only; omega)
  · exact .inr h

theorem Memory.mem_writeHalf {m : Memory} {a : Nat} {v : Half} {c : Host.Cell} (h : c ∈ m.writeHalf a v) :
    (a ≤ c.1 ∧ c.1 < a + 2) ∨ c ∈ m := by
  rcases Memory.mem_write h with rfl | h
  · exact .inl (by simp only; omega)
  rcases Memory.mem_write h with rfl | h
  · exact .inl (by simp only; omega)
  · exact .inr h

/-- Reset's memory, with nothing listed, is in canonical form. -/
theorem State.reset_mem_wf : State.reset.mem.wf = true := rfl

/-- The word just written is the word read. -/
theorem State.readWord_writeWord (s : State) (a : Nat) (v : Word) :
    (s.setMem (s.mem.writeWord a v)).readWord a = v := by
  have h : ∀ k, (s.setMem (s.mem.writeWord a v)).mem.lookup k = (s.mem.writeWord a v).lookup k := fun _ => rfl
  simp only [State.readWord, State.readByte, h, Memory.lookup_writeWord]
  simp only [Nat.add_right_inj, Nat.reduceEqDiff, if_true, if_false, Nat.left_eq_add, OfNat.ofNat_ne_zero, one_ne_zero, byteOf]
  ext i hi
  simp only [← BitVec.getLsbD_eq_getElem]
  simp only [BitVec.getLsbD_append, BitVec.getLsbD_extractLsb']
  split
  · split
    · split
      · rw [decide_eq_true (by omega), Bool.true_and]; congr 1; omega
      · rw [decide_eq_true (by omega), Bool.true_and]; congr 1; omega
    · rw [decide_eq_true (by omega), Bool.true_and]; congr 1; omega
  · rw [decide_eq_true (by omega), Bool.true_and]; congr 1; omega

/-- The sample just written is the sample read. -/
theorem State.readHalf_writeHalf (s : State) (a : Nat) (v : Half) :
    (s.setMem (s.mem.writeHalf a v)).readHalf a = v := by
  have h : ∀ k, (s.setMem (s.mem.writeHalf a v)).mem.lookup k = (s.mem.writeHalf a v).lookup k := fun _ => rfl
  simp only [State.readHalf, State.readByte, h, Memory.lookup_writeHalf]
  simp only [if_true, if_false, Nat.left_eq_add, one_ne_zero, byteOf]
  ext i hi
  simp only [← BitVec.getLsbD_eq_getElem]
  simp only [BitVec.getLsbD_append, BitVec.getLsbD_extractLsb']
  split
  · rw [decide_eq_true (by omega), Bool.true_and]; congr 1; omega
  · rw [decide_eq_true (by omega), Bool.true_and]; congr 1; omega

/-- A read sees only the bytes it covers and the free index. -/
theorem State.readWord_congr {s t : State} {a : Nat} (hf : s.freeIdx = t.freeIdx)
    (h : ∀ x, a ≤ x → x < a + 4 → s.mem.lookup x = t.mem.lookup x) : s.readWord a = t.readWord a := by
  simp only [State.readWord, State.readByte, hf, h a (by omega) (by omega), h (a + 1) (by omega) (by omega),
    h (a + 2) (by omega) (by omega), h (a + 3) (by omega) (by omega)]

theorem State.readHalf_congr {s t : State} {a : Nat} (hf : s.freeIdx = t.freeIdx)
    (h : ∀ x, a ≤ x → x < a + 2 → s.mem.lookup x = t.mem.lookup x) : s.readHalf a = t.readHalf a := by
  simp only [State.readHalf, State.readByte, hf, h a (by omega) (by omega), h (a + 1) (by omega) (by omega)]

end Sys2Proof.Machine
end

