-- ==== Sys2Proof/Laws/State.lean ====
section
/-! SUPPORT. One lemma per field per update of State, so that no proof unfolds a record update. -/

namespace Sys2Proof.Machine

/-! ## `State.setMem` -/

@[simp] theorem State.setMem_params (s : State) (m : Memory) : (s.setMem m).params = s.params := rfl
@[simp] theorem State.setMem_arg (s : State) (m : Memory) : (s.setMem m).arg = s.arg := rfl
@[simp] theorem State.setMem_inited (s : State) (m : Memory) : (s.setMem m).inited = s.inited := rfl
@[simp] theorem State.setMem_busy (s : State) (m : Memory) : (s.setMem m).busy = s.busy := rfl
@[simp] theorem State.setMem_halt (s : State) (m : Memory) : (s.setMem m).halt = s.halt := rfl
@[simp] theorem State.setMem_evqOvf (s : State) (m : Memory) : (s.setMem m).evqOvf = s.evqOvf := rfl
@[simp] theorem State.setMem_enMask (s : State) (m : Memory) : (s.setMem m).enMask = s.enMask := rfl
@[simp] theorem State.setMem_err (s : State) (m : Memory) : (s.setMem m).err = s.err := rfl
@[simp] theorem State.setMem_errInfo (s : State) (m : Memory) : (s.setMem m).errInfo = s.errInfo := rfl
@[simp] theorem State.setMem_wrap (s : State) (m : Memory) : (s.setMem m).wrap = s.wrap := rfl
@[simp] theorem State.setMem_div (s : State) (m : Memory) : (s.setMem m).div = s.div := rfl
@[simp] theorem State.setMem_rs (s : State) (m : Memory) : (s.setMem m).rs = s.rs := rfl
@[simp] theorem State.setMem_mono (s : State) (m : Memory) : (s.setMem m).mono = s.mono := rfl
@[simp] theorem State.setMem_curHalf (s : State) (m : Memory) : (s.setMem m).curHalf = s.curHalf := rfl
@[simp] theorem State.setMem_fillIdx (s : State) (m : Memory) : (s.setMem m).fillIdx = s.fillIdx := rfl
@[simp] theorem State.setMem_pin (s : State) (m : Memory) : (s.setMem m).pin = s.pin := rfl
@[simp] theorem State.setMem_cursor (s : State) (m : Memory) : (s.setMem m).cursor = s.cursor := rfl
@[simp] theorem State.setMem_vol (s : State) (m : Memory) : (s.setMem m).vol = s.vol := rfl
@[simp] theorem State.setMem_act (s : State) (m : Memory) : (s.setMem m).act = s.act := rfl
@[simp] theorem State.setMem_pos (s : State) (m : Memory) : (s.setMem m).pos = s.pos := rfl
@[simp] theorem State.setMem_cc (s : State) (m : Memory) : (s.setMem m).cc = s.cc := rfl
@[simp] theorem State.setMem_rfIdx (s : State) (m : Memory) : (s.setMem m).rfIdx = s.rfIdx := rfl
@[simp] theorem State.setMem_rfK (s : State) (m : Memory) : (s.setMem m).rfK = s.rfK := rfl
@[simp] theorem State.setMem_evq (s : State) (m : Memory) : (s.setMem m).evq = s.evq := rfl
@[simp] theorem State.setMem_desc0 (s : State) (m : Memory) : (s.setMem m).desc0 = s.desc0 := rfl
@[simp] theorem State.setMem_desc1 (s : State) (m : Memory) : (s.setMem m).desc1 = s.desc1 := rfl
@[simp] theorem State.setMem_mem (s : State) (m : Memory) : (s.setMem m).mem = m := rfl
@[simp] theorem State.setMem_out (s : State) (m : Memory) : (s.setMem m).out = s.out := rfl
@[simp] theorem State.setMem_returned (s : State) (m : Memory) : (s.setMem m).returned = s.returned := rfl
@[simp] theorem State.setMem_hostOps (s : State) (m : Memory) : (s.setMem m).hostOps = s.hostOps := rfl
@[simp] theorem State.setMem_turns (s : State) (m : Memory) : (s.setMem m).turns = s.turns := rfl
@[simp] theorem State.setMem_freeIdx (s : State) (m : Memory) : (s.setMem m).freeIdx = s.freeIdx := rfl

/-! ## `State.latch` -/

@[simp] theorem State.latch_params (s : State) (c : ErrCode) (i : Word) : (s.latch c i).params = s.params := rfl
@[simp] theorem State.latch_arg (s : State) (c : ErrCode) (i : Word) : (s.latch c i).arg = s.arg := rfl
@[simp] theorem State.latch_inited (s : State) (c : ErrCode) (i : Word) : (s.latch c i).inited = s.inited := rfl
@[simp] theorem State.latch_busy (s : State) (c : ErrCode) (i : Word) : (s.latch c i).busy = s.busy := rfl
@[simp] theorem State.latch_halt (s : State) (c : ErrCode) (i : Word) : (s.latch c i).halt = s.halt := rfl
@[simp] theorem State.latch_evqOvf (s : State) (c : ErrCode) (i : Word) : (s.latch c i).evqOvf = s.evqOvf := rfl
@[simp] theorem State.latch_enMask (s : State) (c : ErrCode) (i : Word) : (s.latch c i).enMask = s.enMask := rfl
@[simp] theorem State.latch_err (s : State) (c : ErrCode) (i : Word) : (s.latch c i).err = c := rfl
@[simp] theorem State.latch_errInfo (s : State) (c : ErrCode) (i : Word) : (s.latch c i).errInfo = i := rfl
@[simp] theorem State.latch_wrap (s : State) (c : ErrCode) (i : Word) : (s.latch c i).wrap = s.wrap := rfl
@[simp] theorem State.latch_div (s : State) (c : ErrCode) (i : Word) : (s.latch c i).div = s.div := rfl
@[simp] theorem State.latch_rs (s : State) (c : ErrCode) (i : Word) : (s.latch c i).rs = s.rs := rfl
@[simp] theorem State.latch_mono (s : State) (c : ErrCode) (i : Word) : (s.latch c i).mono = s.mono := rfl
@[simp] theorem State.latch_curHalf (s : State) (c : ErrCode) (i : Word) : (s.latch c i).curHalf = s.curHalf := rfl
@[simp] theorem State.latch_fillIdx (s : State) (c : ErrCode) (i : Word) : (s.latch c i).fillIdx = s.fillIdx := rfl
@[simp] theorem State.latch_pin (s : State) (c : ErrCode) (i : Word) : (s.latch c i).pin = s.pin := rfl
@[simp] theorem State.latch_cursor (s : State) (c : ErrCode) (i : Word) : (s.latch c i).cursor = s.cursor := rfl
@[simp] theorem State.latch_vol (s : State) (c : ErrCode) (i : Word) : (s.latch c i).vol = s.vol := rfl
@[simp] theorem State.latch_act (s : State) (c : ErrCode) (i : Word) : (s.latch c i).act = s.act := rfl
@[simp] theorem State.latch_pos (s : State) (c : ErrCode) (i : Word) : (s.latch c i).pos = s.pos := rfl
@[simp] theorem State.latch_cc (s : State) (c : ErrCode) (i : Word) : (s.latch c i).cc = s.cc := rfl
@[simp] theorem State.latch_rfIdx (s : State) (c : ErrCode) (i : Word) : (s.latch c i).rfIdx = s.rfIdx := rfl
@[simp] theorem State.latch_rfK (s : State) (c : ErrCode) (i : Word) : (s.latch c i).rfK = s.rfK := rfl
@[simp] theorem State.latch_evq (s : State) (c : ErrCode) (i : Word) : (s.latch c i).evq = s.evq := rfl
@[simp] theorem State.latch_desc0 (s : State) (c : ErrCode) (i : Word) : (s.latch c i).desc0 = s.desc0 := rfl
@[simp] theorem State.latch_desc1 (s : State) (c : ErrCode) (i : Word) : (s.latch c i).desc1 = s.desc1 := rfl
@[simp] theorem State.latch_mem (s : State) (c : ErrCode) (i : Word) : (s.latch c i).mem = s.mem := rfl
@[simp] theorem State.latch_out (s : State) (c : ErrCode) (i : Word) : (s.latch c i).out = s.out := rfl
@[simp] theorem State.latch_returned (s : State) (c : ErrCode) (i : Word) : (s.latch c i).returned = s.returned := rfl
@[simp] theorem State.latch_hostOps (s : State) (c : ErrCode) (i : Word) : (s.latch c i).hostOps = s.hostOps := rfl
@[simp] theorem State.latch_turns (s : State) (c : ErrCode) (i : Word) : (s.latch c i).turns = s.turns := rfl
@[simp] theorem State.latch_freeIdx (s : State) (c : ErrCode) (i : Word) : (s.latch c i).freeIdx = s.freeIdx := rfl

/-! ## `State.setEnMask` -/

@[simp] theorem State.setEnMask_params (s : State) (m : BitVec 4) : (s.setEnMask m).params = s.params := rfl
@[simp] theorem State.setEnMask_arg (s : State) (m : BitVec 4) : (s.setEnMask m).arg = s.arg := rfl
@[simp] theorem State.setEnMask_inited (s : State) (m : BitVec 4) : (s.setEnMask m).inited = s.inited := rfl
@[simp] theorem State.setEnMask_busy (s : State) (m : BitVec 4) : (s.setEnMask m).busy = s.busy := rfl
@[simp] theorem State.setEnMask_halt (s : State) (m : BitVec 4) : (s.setEnMask m).halt = s.halt := rfl
@[simp] theorem State.setEnMask_evqOvf (s : State) (m : BitVec 4) : (s.setEnMask m).evqOvf = s.evqOvf := rfl
@[simp] theorem State.setEnMask_enMask (s : State) (m : BitVec 4) : (s.setEnMask m).enMask = m := rfl
@[simp] theorem State.setEnMask_err (s : State) (m : BitVec 4) : (s.setEnMask m).err = s.err := rfl
@[simp] theorem State.setEnMask_errInfo (s : State) (m : BitVec 4) : (s.setEnMask m).errInfo = s.errInfo := rfl
@[simp] theorem State.setEnMask_wrap (s : State) (m : BitVec 4) : (s.setEnMask m).wrap = s.wrap := rfl
@[simp] theorem State.setEnMask_div (s : State) (m : BitVec 4) : (s.setEnMask m).div = s.div := rfl
@[simp] theorem State.setEnMask_rs (s : State) (m : BitVec 4) : (s.setEnMask m).rs = s.rs := rfl
@[simp] theorem State.setEnMask_mono (s : State) (m : BitVec 4) : (s.setEnMask m).mono = s.mono := rfl
@[simp] theorem State.setEnMask_curHalf (s : State) (m : BitVec 4) : (s.setEnMask m).curHalf = s.curHalf := rfl
@[simp] theorem State.setEnMask_fillIdx (s : State) (m : BitVec 4) : (s.setEnMask m).fillIdx = s.fillIdx := rfl
@[simp] theorem State.setEnMask_pin (s : State) (m : BitVec 4) : (s.setEnMask m).pin = s.pin := rfl
@[simp] theorem State.setEnMask_cursor (s : State) (m : BitVec 4) : (s.setEnMask m).cursor = s.cursor := rfl
@[simp] theorem State.setEnMask_vol (s : State) (m : BitVec 4) : (s.setEnMask m).vol = s.vol := rfl
@[simp] theorem State.setEnMask_act (s : State) (m : BitVec 4) : (s.setEnMask m).act = s.act := rfl
@[simp] theorem State.setEnMask_pos (s : State) (m : BitVec 4) : (s.setEnMask m).pos = s.pos := rfl
@[simp] theorem State.setEnMask_cc (s : State) (m : BitVec 4) : (s.setEnMask m).cc = s.cc := rfl
@[simp] theorem State.setEnMask_rfIdx (s : State) (m : BitVec 4) : (s.setEnMask m).rfIdx = s.rfIdx := rfl
@[simp] theorem State.setEnMask_rfK (s : State) (m : BitVec 4) : (s.setEnMask m).rfK = s.rfK := rfl
@[simp] theorem State.setEnMask_evq (s : State) (m : BitVec 4) : (s.setEnMask m).evq = s.evq := rfl
@[simp] theorem State.setEnMask_desc0 (s : State) (m : BitVec 4) : (s.setEnMask m).desc0 = s.desc0 := rfl
@[simp] theorem State.setEnMask_desc1 (s : State) (m : BitVec 4) : (s.setEnMask m).desc1 = s.desc1 := rfl
@[simp] theorem State.setEnMask_mem (s : State) (m : BitVec 4) : (s.setEnMask m).mem = s.mem := rfl
@[simp] theorem State.setEnMask_out (s : State) (m : BitVec 4) : (s.setEnMask m).out = s.out := rfl
@[simp] theorem State.setEnMask_returned (s : State) (m : BitVec 4) : (s.setEnMask m).returned = s.returned := rfl
@[simp] theorem State.setEnMask_hostOps (s : State) (m : BitVec 4) : (s.setEnMask m).hostOps = s.hostOps := rfl
@[simp] theorem State.setEnMask_turns (s : State) (m : BitVec 4) : (s.setEnMask m).turns = s.turns := rfl
@[simp] theorem State.setEnMask_freeIdx (s : State) (m : BitVec 4) : (s.setEnMask m).freeIdx = s.freeIdx := rfl

/-! ## `State.setEvq` -/

@[simp] theorem State.setEvq_params (s : State) (q : List Word) : (s.setEvq q).params = s.params := rfl
@[simp] theorem State.setEvq_arg (s : State) (q : List Word) : (s.setEvq q).arg = s.arg := rfl
@[simp] theorem State.setEvq_inited (s : State) (q : List Word) : (s.setEvq q).inited = s.inited := rfl
@[simp] theorem State.setEvq_busy (s : State) (q : List Word) : (s.setEvq q).busy = s.busy := rfl
@[simp] theorem State.setEvq_halt (s : State) (q : List Word) : (s.setEvq q).halt = s.halt := rfl
@[simp] theorem State.setEvq_evqOvf (s : State) (q : List Word) : (s.setEvq q).evqOvf = s.evqOvf := rfl
@[simp] theorem State.setEvq_enMask (s : State) (q : List Word) : (s.setEvq q).enMask = s.enMask := rfl
@[simp] theorem State.setEvq_err (s : State) (q : List Word) : (s.setEvq q).err = s.err := rfl
@[simp] theorem State.setEvq_errInfo (s : State) (q : List Word) : (s.setEvq q).errInfo = s.errInfo := rfl
@[simp] theorem State.setEvq_wrap (s : State) (q : List Word) : (s.setEvq q).wrap = s.wrap := rfl
@[simp] theorem State.setEvq_div (s : State) (q : List Word) : (s.setEvq q).div = s.div := rfl
@[simp] theorem State.setEvq_rs (s : State) (q : List Word) : (s.setEvq q).rs = s.rs := rfl
@[simp] theorem State.setEvq_mono (s : State) (q : List Word) : (s.setEvq q).mono = s.mono := rfl
@[simp] theorem State.setEvq_curHalf (s : State) (q : List Word) : (s.setEvq q).curHalf = s.curHalf := rfl
@[simp] theorem State.setEvq_fillIdx (s : State) (q : List Word) : (s.setEvq q).fillIdx = s.fillIdx := rfl
@[simp] theorem State.setEvq_pin (s : State) (q : List Word) : (s.setEvq q).pin = s.pin := rfl
@[simp] theorem State.setEvq_cursor (s : State) (q : List Word) : (s.setEvq q).cursor = s.cursor := rfl
@[simp] theorem State.setEvq_vol (s : State) (q : List Word) : (s.setEvq q).vol = s.vol := rfl
@[simp] theorem State.setEvq_act (s : State) (q : List Word) : (s.setEvq q).act = s.act := rfl
@[simp] theorem State.setEvq_pos (s : State) (q : List Word) : (s.setEvq q).pos = s.pos := rfl
@[simp] theorem State.setEvq_cc (s : State) (q : List Word) : (s.setEvq q).cc = s.cc := rfl
@[simp] theorem State.setEvq_rfIdx (s : State) (q : List Word) : (s.setEvq q).rfIdx = s.rfIdx := rfl
@[simp] theorem State.setEvq_rfK (s : State) (q : List Word) : (s.setEvq q).rfK = s.rfK := rfl
@[simp] theorem State.setEvq_evq (s : State) (q : List Word) : (s.setEvq q).evq = q := rfl
@[simp] theorem State.setEvq_desc0 (s : State) (q : List Word) : (s.setEvq q).desc0 = s.desc0 := rfl
@[simp] theorem State.setEvq_desc1 (s : State) (q : List Word) : (s.setEvq q).desc1 = s.desc1 := rfl
@[simp] theorem State.setEvq_mem (s : State) (q : List Word) : (s.setEvq q).mem = s.mem := rfl
@[simp] theorem State.setEvq_out (s : State) (q : List Word) : (s.setEvq q).out = s.out := rfl
@[simp] theorem State.setEvq_returned (s : State) (q : List Word) : (s.setEvq q).returned = s.returned := rfl
@[simp] theorem State.setEvq_hostOps (s : State) (q : List Word) : (s.setEvq q).hostOps = s.hostOps := rfl
@[simp] theorem State.setEvq_turns (s : State) (q : List Word) : (s.setEvq q).turns = s.turns := rfl
@[simp] theorem State.setEvq_freeIdx (s : State) (q : List Word) : (s.setEvq q).freeIdx = s.freeIdx := rfl

/-! ## `State.giveHost` -/

@[simp] theorem State.giveHost_params (s : State) (v : Word) : (s.giveHost v).params = s.params := rfl
@[simp] theorem State.giveHost_arg (s : State) (v : Word) : (s.giveHost v).arg = s.arg := rfl
@[simp] theorem State.giveHost_inited (s : State) (v : Word) : (s.giveHost v).inited = s.inited := rfl
@[simp] theorem State.giveHost_busy (s : State) (v : Word) : (s.giveHost v).busy = s.busy := rfl
@[simp] theorem State.giveHost_halt (s : State) (v : Word) : (s.giveHost v).halt = s.halt := rfl
@[simp] theorem State.giveHost_evqOvf (s : State) (v : Word) : (s.giveHost v).evqOvf = s.evqOvf := rfl
@[simp] theorem State.giveHost_enMask (s : State) (v : Word) : (s.giveHost v).enMask = s.enMask := rfl
@[simp] theorem State.giveHost_err (s : State) (v : Word) : (s.giveHost v).err = s.err := rfl
@[simp] theorem State.giveHost_errInfo (s : State) (v : Word) : (s.giveHost v).errInfo = s.errInfo := rfl
@[simp] theorem State.giveHost_wrap (s : State) (v : Word) : (s.giveHost v).wrap = s.wrap := rfl
@[simp] theorem State.giveHost_div (s : State) (v : Word) : (s.giveHost v).div = s.div := rfl
@[simp] theorem State.giveHost_rs (s : State) (v : Word) : (s.giveHost v).rs = s.rs := rfl
@[simp] theorem State.giveHost_mono (s : State) (v : Word) : (s.giveHost v).mono = s.mono := rfl
@[simp] theorem State.giveHost_curHalf (s : State) (v : Word) : (s.giveHost v).curHalf = s.curHalf := rfl
@[simp] theorem State.giveHost_fillIdx (s : State) (v : Word) : (s.giveHost v).fillIdx = s.fillIdx := rfl
@[simp] theorem State.giveHost_pin (s : State) (v : Word) : (s.giveHost v).pin = s.pin := rfl
@[simp] theorem State.giveHost_cursor (s : State) (v : Word) : (s.giveHost v).cursor = s.cursor := rfl
@[simp] theorem State.giveHost_vol (s : State) (v : Word) : (s.giveHost v).vol = s.vol := rfl
@[simp] theorem State.giveHost_act (s : State) (v : Word) : (s.giveHost v).act = s.act := rfl
@[simp] theorem State.giveHost_pos (s : State) (v : Word) : (s.giveHost v).pos = s.pos := rfl
@[simp] theorem State.giveHost_cc (s : State) (v : Word) : (s.giveHost v).cc = s.cc := rfl
@[simp] theorem State.giveHost_rfIdx (s : State) (v : Word) : (s.giveHost v).rfIdx = s.rfIdx := rfl
@[simp] theorem State.giveHost_rfK (s : State) (v : Word) : (s.giveHost v).rfK = s.rfK := rfl
@[simp] theorem State.giveHost_evq (s : State) (v : Word) : (s.giveHost v).evq = s.evq := rfl
@[simp] theorem State.giveHost_desc0 (s : State) (v : Word) : (s.giveHost v).desc0 = s.desc0 := rfl
@[simp] theorem State.giveHost_desc1 (s : State) (v : Word) : (s.giveHost v).desc1 = s.desc1 := rfl
@[simp] theorem State.giveHost_mem (s : State) (v : Word) : (s.giveHost v).mem = s.mem := rfl
@[simp] theorem State.giveHost_out (s : State) (v : Word) : (s.giveHost v).out = s.out := rfl
@[simp] theorem State.giveHost_returned (s : State) (v : Word) : (s.giveHost v).returned = s.returned ++ [v] := rfl
@[simp] theorem State.giveHost_hostOps (s : State) (v : Word) : (s.giveHost v).hostOps = s.hostOps := rfl
@[simp] theorem State.giveHost_turns (s : State) (v : Word) : (s.giveHost v).turns = s.turns := rfl
@[simp] theorem State.giveHost_freeIdx (s : State) (v : Word) : (s.giveHost v).freeIdx = s.freeIdx := rfl

/-! ## `State.beginTurn` -/

@[simp] theorem State.beginTurn_params (s : State) (g : List Agent) : (s.beginTurn g).params = s.params := rfl
@[simp] theorem State.beginTurn_arg (s : State) (g : List Agent) : (s.beginTurn g).arg = s.arg := rfl
@[simp] theorem State.beginTurn_inited (s : State) (g : List Agent) : (s.beginTurn g).inited = s.inited := rfl
@[simp] theorem State.beginTurn_busy (s : State) (g : List Agent) : (s.beginTurn g).busy = s.busy := rfl
@[simp] theorem State.beginTurn_halt (s : State) (g : List Agent) : (s.beginTurn g).halt = s.halt := rfl
@[simp] theorem State.beginTurn_evqOvf (s : State) (g : List Agent) : (s.beginTurn g).evqOvf = s.evqOvf := rfl
@[simp] theorem State.beginTurn_enMask (s : State) (g : List Agent) : (s.beginTurn g).enMask = s.enMask := rfl
@[simp] theorem State.beginTurn_err (s : State) (g : List Agent) : (s.beginTurn g).err = s.err := rfl
@[simp] theorem State.beginTurn_errInfo (s : State) (g : List Agent) : (s.beginTurn g).errInfo = s.errInfo := rfl
@[simp] theorem State.beginTurn_wrap (s : State) (g : List Agent) : (s.beginTurn g).wrap = s.wrap := rfl
@[simp] theorem State.beginTurn_div (s : State) (g : List Agent) : (s.beginTurn g).div = s.div := rfl
@[simp] theorem State.beginTurn_rs (s : State) (g : List Agent) : (s.beginTurn g).rs = s.rs := rfl
@[simp] theorem State.beginTurn_mono (s : State) (g : List Agent) : (s.beginTurn g).mono = s.mono := rfl
@[simp] theorem State.beginTurn_curHalf (s : State) (g : List Agent) : (s.beginTurn g).curHalf = s.curHalf := rfl
@[simp] theorem State.beginTurn_fillIdx (s : State) (g : List Agent) : (s.beginTurn g).fillIdx = s.fillIdx := rfl
@[simp] theorem State.beginTurn_pin (s : State) (g : List Agent) : (s.beginTurn g).pin = s.pin := rfl
@[simp] theorem State.beginTurn_cursor (s : State) (g : List Agent) : (s.beginTurn g).cursor = s.cursor := rfl
@[simp] theorem State.beginTurn_vol (s : State) (g : List Agent) : (s.beginTurn g).vol = s.vol := rfl
@[simp] theorem State.beginTurn_act (s : State) (g : List Agent) : (s.beginTurn g).act = s.act := rfl
@[simp] theorem State.beginTurn_pos (s : State) (g : List Agent) : (s.beginTurn g).pos = s.pos := rfl
@[simp] theorem State.beginTurn_cc (s : State) (g : List Agent) : (s.beginTurn g).cc = s.cc := rfl
@[simp] theorem State.beginTurn_rfIdx (s : State) (g : List Agent) : (s.beginTurn g).rfIdx = s.rfIdx := rfl
@[simp] theorem State.beginTurn_rfK (s : State) (g : List Agent) : (s.beginTurn g).rfK = s.rfK := rfl
@[simp] theorem State.beginTurn_evq (s : State) (g : List Agent) : (s.beginTurn g).evq = s.evq := rfl
@[simp] theorem State.beginTurn_desc0 (s : State) (g : List Agent) : (s.beginTurn g).desc0 = s.desc0 := rfl
@[simp] theorem State.beginTurn_desc1 (s : State) (g : List Agent) : (s.beginTurn g).desc1 = s.desc1 := rfl
@[simp] theorem State.beginTurn_mem (s : State) (g : List Agent) : (s.beginTurn g).mem = s.mem := rfl
@[simp] theorem State.beginTurn_out (s : State) (g : List Agent) : (s.beginTurn g).out = s.out := rfl
@[simp] theorem State.beginTurn_returned (s : State) (g : List Agent) : (s.beginTurn g).returned = s.returned := rfl
@[simp] theorem State.beginTurn_hostOps (s : State) (g : List Agent) : (s.beginTurn g).hostOps = s.hostOps := rfl
@[simp] theorem State.beginTurn_turns (s : State) (g : List Agent) : (s.beginTurn g).turns = g := rfl
@[simp] theorem State.beginTurn_freeIdx (s : State) (g : List Agent) : (s.beginTurn g).freeIdx = s.freeIdx + 1 := rfl

/-! ## `State.setHostOps` -/

@[simp] theorem State.setHostOps_params (s : State) (ops : List HostOp) : (s.setHostOps ops).params = s.params := rfl
@[simp] theorem State.setHostOps_arg (s : State) (ops : List HostOp) : (s.setHostOps ops).arg = s.arg := rfl
@[simp] theorem State.setHostOps_inited (s : State) (ops : List HostOp) : (s.setHostOps ops).inited = s.inited := rfl
@[simp] theorem State.setHostOps_busy (s : State) (ops : List HostOp) : (s.setHostOps ops).busy = s.busy := rfl
@[simp] theorem State.setHostOps_halt (s : State) (ops : List HostOp) : (s.setHostOps ops).halt = s.halt := rfl
@[simp] theorem State.setHostOps_evqOvf (s : State) (ops : List HostOp) : (s.setHostOps ops).evqOvf = s.evqOvf := rfl
@[simp] theorem State.setHostOps_enMask (s : State) (ops : List HostOp) : (s.setHostOps ops).enMask = s.enMask := rfl
@[simp] theorem State.setHostOps_err (s : State) (ops : List HostOp) : (s.setHostOps ops).err = s.err := rfl
@[simp] theorem State.setHostOps_errInfo (s : State) (ops : List HostOp) : (s.setHostOps ops).errInfo = s.errInfo := rfl
@[simp] theorem State.setHostOps_wrap (s : State) (ops : List HostOp) : (s.setHostOps ops).wrap = s.wrap := rfl
@[simp] theorem State.setHostOps_div (s : State) (ops : List HostOp) : (s.setHostOps ops).div = s.div := rfl
@[simp] theorem State.setHostOps_rs (s : State) (ops : List HostOp) : (s.setHostOps ops).rs = s.rs := rfl
@[simp] theorem State.setHostOps_mono (s : State) (ops : List HostOp) : (s.setHostOps ops).mono = s.mono := rfl
@[simp] theorem State.setHostOps_curHalf (s : State) (ops : List HostOp) : (s.setHostOps ops).curHalf = s.curHalf := rfl
@[simp] theorem State.setHostOps_fillIdx (s : State) (ops : List HostOp) : (s.setHostOps ops).fillIdx = s.fillIdx := rfl
@[simp] theorem State.setHostOps_pin (s : State) (ops : List HostOp) : (s.setHostOps ops).pin = s.pin := rfl
@[simp] theorem State.setHostOps_cursor (s : State) (ops : List HostOp) : (s.setHostOps ops).cursor = s.cursor := rfl
@[simp] theorem State.setHostOps_vol (s : State) (ops : List HostOp) : (s.setHostOps ops).vol = s.vol := rfl
@[simp] theorem State.setHostOps_act (s : State) (ops : List HostOp) : (s.setHostOps ops).act = s.act := rfl
@[simp] theorem State.setHostOps_pos (s : State) (ops : List HostOp) : (s.setHostOps ops).pos = s.pos := rfl
@[simp] theorem State.setHostOps_cc (s : State) (ops : List HostOp) : (s.setHostOps ops).cc = s.cc := rfl
@[simp] theorem State.setHostOps_rfIdx (s : State) (ops : List HostOp) : (s.setHostOps ops).rfIdx = s.rfIdx := rfl
@[simp] theorem State.setHostOps_rfK (s : State) (ops : List HostOp) : (s.setHostOps ops).rfK = s.rfK := rfl
@[simp] theorem State.setHostOps_evq (s : State) (ops : List HostOp) : (s.setHostOps ops).evq = s.evq := rfl
@[simp] theorem State.setHostOps_desc0 (s : State) (ops : List HostOp) : (s.setHostOps ops).desc0 = s.desc0 := rfl
@[simp] theorem State.setHostOps_desc1 (s : State) (ops : List HostOp) : (s.setHostOps ops).desc1 = s.desc1 := rfl
@[simp] theorem State.setHostOps_mem (s : State) (ops : List HostOp) : (s.setHostOps ops).mem = s.mem := rfl
@[simp] theorem State.setHostOps_out (s : State) (ops : List HostOp) : (s.setHostOps ops).out = s.out := rfl
@[simp] theorem State.setHostOps_returned (s : State) (ops : List HostOp) : (s.setHostOps ops).returned = s.returned := rfl
@[simp] theorem State.setHostOps_hostOps (s : State) (ops : List HostOp) : (s.setHostOps ops).hostOps = ops := rfl
@[simp] theorem State.setHostOps_turns (s : State) (ops : List HostOp) : (s.setHostOps ops).turns = s.turns := rfl
@[simp] theorem State.setHostOps_freeIdx (s : State) (ops : List HostOp) : (s.setHostOps ops).freeIdx = s.freeIdx := rfl

/-! ## `State.outputWord` -/

@[simp] theorem State.outputWord_params (s : State) (w : Word) : (s.outputWord w).params = s.params := rfl
@[simp] theorem State.outputWord_arg (s : State) (w : Word) : (s.outputWord w).arg = s.arg := rfl
@[simp] theorem State.outputWord_inited (s : State) (w : Word) : (s.outputWord w).inited = s.inited := rfl
@[simp] theorem State.outputWord_busy (s : State) (w : Word) : (s.outputWord w).busy = s.busy := rfl
@[simp] theorem State.outputWord_halt (s : State) (w : Word) : (s.outputWord w).halt = s.halt := rfl
@[simp] theorem State.outputWord_evqOvf (s : State) (w : Word) : (s.outputWord w).evqOvf = s.evqOvf := rfl
@[simp] theorem State.outputWord_enMask (s : State) (w : Word) : (s.outputWord w).enMask = s.enMask := rfl
@[simp] theorem State.outputWord_err (s : State) (w : Word) : (s.outputWord w).err = s.err := rfl
@[simp] theorem State.outputWord_errInfo (s : State) (w : Word) : (s.outputWord w).errInfo = s.errInfo := rfl
@[simp] theorem State.outputWord_wrap (s : State) (w : Word) : (s.outputWord w).wrap = s.wrap := rfl
@[simp] theorem State.outputWord_div (s : State) (w : Word) : (s.outputWord w).div = s.div := rfl
@[simp] theorem State.outputWord_rs (s : State) (w : Word) : (s.outputWord w).rs = s.rs := rfl
@[simp] theorem State.outputWord_mono (s : State) (w : Word) : (s.outputWord w).mono = s.mono := rfl
@[simp] theorem State.outputWord_curHalf (s : State) (w : Word) : (s.outputWord w).curHalf = s.curHalf := rfl
@[simp] theorem State.outputWord_fillIdx (s : State) (w : Word) : (s.outputWord w).fillIdx = s.fillIdx := rfl
@[simp] theorem State.outputWord_pin (s : State) (w : Word) : (s.outputWord w).pin = s.pin := rfl
@[simp] theorem State.outputWord_cursor (s : State) (w : Word) : (s.outputWord w).cursor = s.cursor := rfl
@[simp] theorem State.outputWord_vol (s : State) (w : Word) : (s.outputWord w).vol = s.vol := rfl
@[simp] theorem State.outputWord_act (s : State) (w : Word) : (s.outputWord w).act = s.act := rfl
@[simp] theorem State.outputWord_pos (s : State) (w : Word) : (s.outputWord w).pos = s.pos := rfl
@[simp] theorem State.outputWord_cc (s : State) (w : Word) : (s.outputWord w).cc = w := rfl
@[simp] theorem State.outputWord_rfIdx (s : State) (w : Word) : (s.outputWord w).rfIdx = s.rfIdx := rfl
@[simp] theorem State.outputWord_rfK (s : State) (w : Word) : (s.outputWord w).rfK = s.rfK := rfl
@[simp] theorem State.outputWord_evq (s : State) (w : Word) : (s.outputWord w).evq = s.evq := rfl
@[simp] theorem State.outputWord_desc0 (s : State) (w : Word) : (s.outputWord w).desc0 = s.desc0 := rfl
@[simp] theorem State.outputWord_desc1 (s : State) (w : Word) : (s.outputWord w).desc1 = s.desc1 := rfl
@[simp] theorem State.outputWord_mem (s : State) (w : Word) : (s.outputWord w).mem = s.mem := rfl
@[simp] theorem State.outputWord_out (s : State) (w : Word) : (s.outputWord w).out = s.out ++ [w] := rfl
@[simp] theorem State.outputWord_returned (s : State) (w : Word) : (s.outputWord w).returned = s.returned := rfl
@[simp] theorem State.outputWord_hostOps (s : State) (w : Word) : (s.outputWord w).hostOps = s.hostOps := rfl
@[simp] theorem State.outputWord_turns (s : State) (w : Word) : (s.outputWord w).turns = s.turns := rfl
@[simp] theorem State.outputWord_freeIdx (s : State) (w : Word) : (s.outputWord w).freeIdx = s.freeIdx := rfl

/-! ## `State.fatal` -/

@[simp] theorem State.fatal_params (s : State) (c : ErrCode) (i : Word) : (s.fatal c i).params = s.params := rfl
@[simp] theorem State.fatal_arg (s : State) (c : ErrCode) (i : Word) : (s.fatal c i).arg = s.arg := rfl
@[simp] theorem State.fatal_inited (s : State) (c : ErrCode) (i : Word) : (s.fatal c i).inited = s.inited := rfl
@[simp] theorem State.fatal_busy (s : State) (c : ErrCode) (i : Word) : (s.fatal c i).busy = s.busy := rfl
@[simp] theorem State.fatal_halt (s : State) (c : ErrCode) (i : Word) : (s.fatal c i).halt = true := rfl
@[simp] theorem State.fatal_evqOvf (s : State) (c : ErrCode) (i : Word) : (s.fatal c i).evqOvf = s.evqOvf := rfl
@[simp] theorem State.fatal_enMask (s : State) (c : ErrCode) (i : Word) : (s.fatal c i).enMask = 0b0000#4 := rfl
@[simp] theorem State.fatal_err (s : State) (c : ErrCode) (i : Word) : (s.fatal c i).err = c := rfl
@[simp] theorem State.fatal_errInfo (s : State) (c : ErrCode) (i : Word) : (s.fatal c i).errInfo = i := rfl
@[simp] theorem State.fatal_wrap (s : State) (c : ErrCode) (i : Word) : (s.fatal c i).wrap = s.wrap := rfl
@[simp] theorem State.fatal_div (s : State) (c : ErrCode) (i : Word) : (s.fatal c i).div = s.div := rfl
@[simp] theorem State.fatal_rs (s : State) (c : ErrCode) (i : Word) : (s.fatal c i).rs = s.rs := rfl
@[simp] theorem State.fatal_mono (s : State) (c : ErrCode) (i : Word) : (s.fatal c i).mono = s.mono := rfl
@[simp] theorem State.fatal_curHalf (s : State) (c : ErrCode) (i : Word) : (s.fatal c i).curHalf = s.curHalf := rfl
@[simp] theorem State.fatal_fillIdx (s : State) (c : ErrCode) (i : Word) : (s.fatal c i).fillIdx = s.fillIdx := rfl
@[simp] theorem State.fatal_pin (s : State) (c : ErrCode) (i : Word) : (s.fatal c i).pin = s.pin := rfl
@[simp] theorem State.fatal_cursor (s : State) (c : ErrCode) (i : Word) : (s.fatal c i).cursor = s.cursor := rfl
@[simp] theorem State.fatal_vol (s : State) (c : ErrCode) (i : Word) : (s.fatal c i).vol = s.vol := rfl
@[simp] theorem State.fatal_act (s : State) (c : ErrCode) (i : Word) : (s.fatal c i).act = s.act := rfl
@[simp] theorem State.fatal_pos (s : State) (c : ErrCode) (i : Word) : (s.fatal c i).pos = s.pos := rfl
@[simp] theorem State.fatal_cc (s : State) (c : ErrCode) (i : Word) : (s.fatal c i).cc = s.cc := rfl
@[simp] theorem State.fatal_rfIdx (s : State) (c : ErrCode) (i : Word) : (s.fatal c i).rfIdx = s.rfIdx := rfl
@[simp] theorem State.fatal_rfK (s : State) (c : ErrCode) (i : Word) : (s.fatal c i).rfK = s.rfK := rfl
@[simp] theorem State.fatal_evq (s : State) (c : ErrCode) (i : Word) : (s.fatal c i).evq = s.evq := rfl
@[simp] theorem State.fatal_desc0 (s : State) (c : ErrCode) (i : Word) : (s.fatal c i).desc0 = s.desc0 := rfl
@[simp] theorem State.fatal_desc1 (s : State) (c : ErrCode) (i : Word) : (s.fatal c i).desc1 = s.desc1 := rfl
@[simp] theorem State.fatal_mem (s : State) (c : ErrCode) (i : Word) : (s.fatal c i).mem = s.mem := rfl
@[simp] theorem State.fatal_out (s : State) (c : ErrCode) (i : Word) : (s.fatal c i).out = s.out := rfl
@[simp] theorem State.fatal_returned (s : State) (c : ErrCode) (i : Word) : (s.fatal c i).returned = s.returned := rfl
@[simp] theorem State.fatal_hostOps (s : State) (c : ErrCode) (i : Word) : (s.fatal c i).hostOps = s.hostOps := rfl
@[simp] theorem State.fatal_turns (s : State) (c : ErrCode) (i : Word) : (s.fatal c i).turns = s.turns := rfl
@[simp] theorem State.fatal_freeIdx (s : State) (c : ErrCode) (i : Word) : (s.fatal c i).freeIdx = s.freeIdx := rfl

/-! ## `State.clearErrors` -/

@[simp] theorem State.clearErrors_params (s : State) : s.clearErrors.params = s.params := rfl
@[simp] theorem State.clearErrors_arg (s : State) : s.clearErrors.arg = s.arg := rfl
@[simp] theorem State.clearErrors_inited (s : State) : s.clearErrors.inited = s.inited := rfl
@[simp] theorem State.clearErrors_busy (s : State) : s.clearErrors.busy = s.busy := rfl
@[simp] theorem State.clearErrors_halt (s : State) : s.clearErrors.halt = s.halt := rfl
@[simp] theorem State.clearErrors_evqOvf (s : State) : s.clearErrors.evqOvf = false := rfl
@[simp] theorem State.clearErrors_enMask (s : State) : s.clearErrors.enMask = s.enMask := rfl
@[simp] theorem State.clearErrors_err (s : State) : s.clearErrors.err = .none := rfl
@[simp] theorem State.clearErrors_errInfo (s : State) : s.clearErrors.errInfo = 0#32 := rfl
@[simp] theorem State.clearErrors_wrap (s : State) : s.clearErrors.wrap = s.wrap := rfl
@[simp] theorem State.clearErrors_div (s : State) : s.clearErrors.div = s.div := rfl
@[simp] theorem State.clearErrors_rs (s : State) : s.clearErrors.rs = s.rs := rfl
@[simp] theorem State.clearErrors_mono (s : State) : s.clearErrors.mono = s.mono := rfl
@[simp] theorem State.clearErrors_curHalf (s : State) : s.clearErrors.curHalf = s.curHalf := rfl
@[simp] theorem State.clearErrors_fillIdx (s : State) : s.clearErrors.fillIdx = s.fillIdx := rfl
@[simp] theorem State.clearErrors_pin (s : State) : s.clearErrors.pin = s.pin := rfl
@[simp] theorem State.clearErrors_cursor (s : State) : s.clearErrors.cursor = s.cursor := rfl
@[simp] theorem State.clearErrors_vol (s : State) : s.clearErrors.vol = s.vol := rfl
@[simp] theorem State.clearErrors_act (s : State) : s.clearErrors.act = s.act := rfl
@[simp] theorem State.clearErrors_pos (s : State) : s.clearErrors.pos = s.pos := rfl
@[simp] theorem State.clearErrors_cc (s : State) : s.clearErrors.cc = s.cc := rfl
@[simp] theorem State.clearErrors_rfIdx (s : State) : s.clearErrors.rfIdx = s.rfIdx := rfl
@[simp] theorem State.clearErrors_rfK (s : State) : s.clearErrors.rfK = s.rfK := rfl
@[simp] theorem State.clearErrors_evq (s : State) : s.clearErrors.evq = s.evq := rfl
@[simp] theorem State.clearErrors_desc0 (s : State) : s.clearErrors.desc0 = s.desc0 := rfl
@[simp] theorem State.clearErrors_desc1 (s : State) : s.clearErrors.desc1 = s.desc1 := rfl
@[simp] theorem State.clearErrors_mem (s : State) : s.clearErrors.mem = s.mem := rfl
@[simp] theorem State.clearErrors_out (s : State) : s.clearErrors.out = s.out := rfl
@[simp] theorem State.clearErrors_returned (s : State) : s.clearErrors.returned = s.returned := rfl
@[simp] theorem State.clearErrors_hostOps (s : State) : s.clearErrors.hostOps = s.hostOps := rfl
@[simp] theorem State.clearErrors_turns (s : State) : s.clearErrors.turns = s.turns := rfl
@[simp] theorem State.clearErrors_freeIdx (s : State) : s.clearErrors.freeIdx = s.freeIdx := rfl

/-! ## `State.evqPop` -/

@[simp] theorem State.evqPop_params (s : State) : s.evqPop.params = s.params := rfl
@[simp] theorem State.evqPop_arg (s : State) : s.evqPop.arg = s.arg := rfl
@[simp] theorem State.evqPop_inited (s : State) : s.evqPop.inited = s.inited := rfl
@[simp] theorem State.evqPop_busy (s : State) : s.evqPop.busy = s.busy := rfl
@[simp] theorem State.evqPop_halt (s : State) : s.evqPop.halt = s.halt := rfl
@[simp] theorem State.evqPop_evqOvf (s : State) : s.evqPop.evqOvf = s.evqOvf := rfl
@[simp] theorem State.evqPop_enMask (s : State) : s.evqPop.enMask = s.enMask := rfl
@[simp] theorem State.evqPop_err (s : State) : s.evqPop.err = s.err := rfl
@[simp] theorem State.evqPop_errInfo (s : State) : s.evqPop.errInfo = s.errInfo := rfl
@[simp] theorem State.evqPop_wrap (s : State) : s.evqPop.wrap = s.wrap := rfl
@[simp] theorem State.evqPop_div (s : State) : s.evqPop.div = s.div := rfl
@[simp] theorem State.evqPop_rs (s : State) : s.evqPop.rs = s.rs := rfl
@[simp] theorem State.evqPop_mono (s : State) : s.evqPop.mono = s.mono := rfl
@[simp] theorem State.evqPop_curHalf (s : State) : s.evqPop.curHalf = s.curHalf := rfl
@[simp] theorem State.evqPop_fillIdx (s : State) : s.evqPop.fillIdx = s.fillIdx := rfl
@[simp] theorem State.evqPop_pin (s : State) : s.evqPop.pin = s.pin := rfl
@[simp] theorem State.evqPop_cursor (s : State) : s.evqPop.cursor = s.cursor := rfl
@[simp] theorem State.evqPop_vol (s : State) : s.evqPop.vol = s.vol := rfl
@[simp] theorem State.evqPop_act (s : State) : s.evqPop.act = s.act := rfl
@[simp] theorem State.evqPop_pos (s : State) : s.evqPop.pos = s.pos := rfl
@[simp] theorem State.evqPop_cc (s : State) : s.evqPop.cc = s.cc := rfl
@[simp] theorem State.evqPop_rfIdx (s : State) : s.evqPop.rfIdx = s.rfIdx := rfl
@[simp] theorem State.evqPop_rfK (s : State) : s.evqPop.rfK = s.rfK := rfl
@[simp] theorem State.evqPop_evq (s : State) : s.evqPop.evq = s.evq.tail := rfl
@[simp] theorem State.evqPop_desc0 (s : State) : s.evqPop.desc0 = s.desc0 := rfl
@[simp] theorem State.evqPop_desc1 (s : State) : s.evqPop.desc1 = s.desc1 := rfl
@[simp] theorem State.evqPop_mem (s : State) : s.evqPop.mem = s.mem := rfl
@[simp] theorem State.evqPop_out (s : State) : s.evqPop.out = s.out := rfl
@[simp] theorem State.evqPop_returned (s : State) : s.evqPop.returned = s.returned := rfl
@[simp] theorem State.evqPop_hostOps (s : State) : s.evqPop.hostOps = s.hostOps := rfl
@[simp] theorem State.evqPop_turns (s : State) : s.evqPop.turns = s.turns := rfl
@[simp] theorem State.evqPop_freeIdx (s : State) : s.evqPop.freeIdx = s.freeIdx := rfl

/-! ## `State.writeTb` -/

@[simp] theorem State.writeTb_params (s : State) (i : Bit) (k : Nat) (w : Word) : (s.writeTb i k w).params = s.params := rfl
@[simp] theorem State.writeTb_arg (s : State) (i : Bit) (k : Nat) (w : Word) : (s.writeTb i k w).arg = s.arg := rfl
@[simp] theorem State.writeTb_inited (s : State) (i : Bit) (k : Nat) (w : Word) : (s.writeTb i k w).inited = s.inited := rfl
@[simp] theorem State.writeTb_busy (s : State) (i : Bit) (k : Nat) (w : Word) : (s.writeTb i k w).busy = s.busy := rfl
@[simp] theorem State.writeTb_halt (s : State) (i : Bit) (k : Nat) (w : Word) : (s.writeTb i k w).halt = s.halt := rfl
@[simp] theorem State.writeTb_evqOvf (s : State) (i : Bit) (k : Nat) (w : Word) : (s.writeTb i k w).evqOvf = s.evqOvf := rfl
@[simp] theorem State.writeTb_enMask (s : State) (i : Bit) (k : Nat) (w : Word) : (s.writeTb i k w).enMask = s.enMask := rfl
@[simp] theorem State.writeTb_err (s : State) (i : Bit) (k : Nat) (w : Word) : (s.writeTb i k w).err = s.err := rfl
@[simp] theorem State.writeTb_errInfo (s : State) (i : Bit) (k : Nat) (w : Word) : (s.writeTb i k w).errInfo = s.errInfo := rfl
@[simp] theorem State.writeTb_wrap (s : State) (i : Bit) (k : Nat) (w : Word) : (s.writeTb i k w).wrap = s.wrap := rfl
@[simp] theorem State.writeTb_div (s : State) (i : Bit) (k : Nat) (w : Word) : (s.writeTb i k w).div = s.div := rfl
@[simp] theorem State.writeTb_rs (s : State) (i : Bit) (k : Nat) (w : Word) : (s.writeTb i k w).rs = s.rs := rfl
@[simp] theorem State.writeTb_mono (s : State) (i : Bit) (k : Nat) (w : Word) : (s.writeTb i k w).mono = s.mono := rfl
@[simp] theorem State.writeTb_curHalf (s : State) (i : Bit) (k : Nat) (w : Word) : (s.writeTb i k w).curHalf = s.curHalf := rfl
@[simp] theorem State.writeTb_fillIdx (s : State) (i : Bit) (k : Nat) (w : Word) : (s.writeTb i k w).fillIdx = s.fillIdx := rfl
@[simp] theorem State.writeTb_pin (s : State) (i : Bit) (k : Nat) (w : Word) : (s.writeTb i k w).pin = s.pin := rfl
@[simp] theorem State.writeTb_cursor (s : State) (i : Bit) (k : Nat) (w : Word) : (s.writeTb i k w).cursor = s.cursor := rfl
@[simp] theorem State.writeTb_vol (s : State) (i : Bit) (k : Nat) (w : Word) : (s.writeTb i k w).vol = s.vol := rfl
@[simp] theorem State.writeTb_act (s : State) (i : Bit) (k : Nat) (w : Word) : (s.writeTb i k w).act = s.act := rfl
@[simp] theorem State.writeTb_pos (s : State) (i : Bit) (k : Nat) (w : Word) : (s.writeTb i k w).pos = s.pos := rfl
@[simp] theorem State.writeTb_cc (s : State) (i : Bit) (k : Nat) (w : Word) : (s.writeTb i k w).cc = s.cc := rfl
@[simp] theorem State.writeTb_rfIdx (s : State) (i : Bit) (k : Nat) (w : Word) : (s.writeTb i k w).rfIdx = s.rfIdx := rfl
@[simp] theorem State.writeTb_rfK (s : State) (i : Bit) (k : Nat) (w : Word) : (s.writeTb i k w).rfK = s.rfK := rfl
@[simp] theorem State.writeTb_evq (s : State) (i : Bit) (k : Nat) (w : Word) : (s.writeTb i k w).evq = s.evq := rfl
@[simp] theorem State.writeTb_desc0 (s : State) (i : Bit) (k : Nat) (w : Word) : (s.writeTb i k w).desc0 = s.desc0 := rfl
@[simp] theorem State.writeTb_desc1 (s : State) (i : Bit) (k : Nat) (w : Word) : (s.writeTb i k w).desc1 = s.desc1 := rfl
@[simp] theorem State.writeTb_mem (s : State) (i : Bit) (k : Nat) (w : Word) : (s.writeTb i k w).mem = s.mem.writeWord (tbAddr s.params i k) w := rfl
@[simp] theorem State.writeTb_out (s : State) (i : Bit) (k : Nat) (w : Word) : (s.writeTb i k w).out = s.out := rfl
@[simp] theorem State.writeTb_returned (s : State) (i : Bit) (k : Nat) (w : Word) : (s.writeTb i k w).returned = s.returned := rfl
@[simp] theorem State.writeTb_hostOps (s : State) (i : Bit) (k : Nat) (w : Word) : (s.writeTb i k w).hostOps = s.hostOps := rfl
@[simp] theorem State.writeTb_turns (s : State) (i : Bit) (k : Nat) (w : Word) : (s.writeTb i k w).turns = s.turns := rfl
@[simp] theorem State.writeTb_freeIdx (s : State) (i : Bit) (k : Nat) (w : Word) : (s.writeTb i k w).freeIdx = s.freeIdx := rfl

end Sys2Proof.Machine
end

