-- ==== Sys2Proof/Laws/Ops.lean ====
section
/-! SUPPORT. One lemma per shared operation that says everything it can do, and one per level of the step. -/

namespace Sys2Proof.Machine

/-! ## Refusals and pushes -/

theorem State.refuse_cases (s : State) (c : ErrCode) (i : Word) :
    (s.err = .none ∧ s.refuse c i = s.latch c i) ∨ (s.err ≠ .none ∧ s.refuse c i = s) := by
  by_cases h : s.err = .none
  · exact .inl ⟨h, if_pos h⟩
  · exact .inr ⟨h, if_neg h⟩

/-- A refusal touches the latch alone. -/
theorem State.refuse_eq (s : State) (c : ErrCode) (i : Word) :
    s.refuse c i = { s with err := (s.refuse c i).err, errInfo := (s.refuse c i).errInfo } := by
  rcases s.refuse_cases c i with ⟨-, h⟩ | ⟨-, h⟩
  · rw [h]; rfl
  · rw [h]

theorem State.evqPush_cases (s : State) (t : Word) :
    (s.evq.length < s.params.evqDepth ∧ s.evqPush t = s.setEvq (s.evq ++ [t])) ∨
    (s.params.evqDepth ≤ s.evq.length ∧ s.evqPush t = { s with evqOvf := true }) := by
  by_cases h : s.evq.length < s.params.evqDepth
  · exact .inl ⟨h, if_pos h⟩
  · exact .inr ⟨by omega, if_neg h⟩

/-- A push touches the queue and its overflow flag alone. -/
theorem State.evqPush_eq (s : State) (t : Word) :
    s.evqPush t = { s with evq := (s.evqPush t).evq, evqOvf := (s.evqPush t).evqOvf } := by
  rcases s.evqPush_cases t with ⟨-, h⟩ | ⟨-, h⟩
  · rw [h]; rfl
  · rw [h]

/-- A push never overfills the queue. -/
theorem State.evqPush_length (s : State) (t : Word) (h : s.evq.length ≤ s.params.evqDepth) :
    (s.evqPush t).evq.length ≤ s.params.evqDepth := by
  rcases s.evqPush_cases t with ⟨hl, e⟩ | ⟨-, e⟩ <;> rw [e]
  · simpa using hl
  · exact h

/-- Every token in the queue after a push was there before or is the one pushed. -/
theorem State.mem_evqPush {s : State} {t u : Word} (h : u ∈ (s.evqPush t).evq) : u ∈ s.evq ∨ u = t := by
  rcases s.evqPush_cases t with ⟨-, e⟩ | ⟨-, e⟩ <;> rw [e] at h
  · simpa using h
  · exact .inl h

/-! ## The hardware steps -/

theorem State.advanceCursor_cases (s : State) :
    ((s.cursor + 1#32).toNat = s.halfWords ∧
      s.advanceCursor = { s with curHalf := s.curHalf.other, cursor := 0#32 }.evqPush tokenStagingReq) ∨
    ((s.cursor + 1#32).toNat ≠ s.halfWords ∧ s.advanceCursor = { s with cursor := s.cursor + 1#32 }) := by
  by_cases h : (s.cursor + 1#32).toNat = s.halfWords
  · exact .inl ⟨h, if_pos h⟩
  · exact .inr ⟨h, if_neg h⟩

/-- The cursor part of `RefillWord` touches `CURSOR`, `CUR_HALF`, the queue and its overflow flag alone. -/
theorem State.advanceCursor_eq (s : State) :
    s.advanceCursor = { s with
      cursor := s.advanceCursor.cursor
      curHalf := s.advanceCursor.curHalf
      evq := s.advanceCursor.evq
      evqOvf := s.advanceCursor.evqOvf } := by
  rcases s.advanceCursor_cases with ⟨-, h⟩ | ⟨-, h⟩ <;> rw [h]
  rw [State.evqPush_eq]

theorem State.advanceRefill_cases (s : State) :
    ((s.rfK + 1#14).toNat = s.params.n ∧
      s.advanceRefill = { s with rfK := 0#14, busy := false, fillIdx := s.fillIdx.other }) ∨
    ((s.rfK + 1#14).toNat ≠ s.params.n ∧ s.advanceRefill = { s with rfK := s.rfK + 1#14 }) := by
  by_cases h : (s.rfK + 1#14).toNat = s.params.n
  · exact .inl ⟨h, if_pos h⟩
  · exact .inr ⟨h, if_neg h⟩

theorem State.advanceDma_cases (s : State) (d : Descriptor) :
    (s.pos + 1#14 = d.transfers ∧ d.irqEn = true ∧
      s.advanceDma d = { s with pos := 0#14, act := d.chainTo }.evqPush (tokenTransferDone s.act)) ∨
    (s.pos + 1#14 = d.transfers ∧ d.irqEn = false ∧ s.advanceDma d = { s with pos := 0#14, act := d.chainTo }) ∨
    (s.pos + 1#14 ≠ d.transfers ∧ s.advanceDma d = { s with pos := s.pos + 1#14 }) := by
  by_cases h : s.pos + 1#14 = d.transfers
  · cases hi : d.irqEn
    · exact .inr (.inl ⟨h, rfl, by simp [State.advanceDma, h, hi]⟩)
    · exact .inl ⟨h, rfl, by simp [State.advanceDma, h, hi]⟩
  · exact .inr (.inr ⟨h, if_neg h⟩)

/-- A `Tick` answers a next state exactly when the descriptors are canonical, and then this one. -/
theorem tick_next_iff (s t : State) :
    tick s = .next t ↔ s.descCanonical = true ∧ t = (s.outputWord s.dmaWord).advanceDma (s.desc s.act) := by
  unfold tick
  split
  · next h => simp [h, eq_comm]
  · next h => simp [h]

/-! ## Levels of the step -/

theorem hostTurn_cases {s t : State} (h : hostTurn s = .next t) :
    (s.hostOps = [] ∧ t = s) ∨
    ∃ op ops, s.hostOps = op :: ops ∧
      ((s.holds op = true ∧ t = s) ∨ (s.holds op = false ∧ hostStep op (s.setHostOps ops) = .next t)) := by
  unfold hostTurn at h
  split at h
  · next he => exact .inl ⟨he, by simpa using h.symm⟩
  · next op ops he =>
    refine .inr ⟨op, ops, he, ?_⟩
    split at h
    · next hh => exact .inl ⟨hh, by simpa using h.symm⟩
    · next hh => exact .inr ⟨by simpa using hh, h⟩

theorem cpTurn_cases (s : State) :
    (s.busy = true ∧ cpTurn s = .next (refillWord s)) ∨ (s.busy = false ∧ cpTurn s = .next s) := by
  unfold cpTurn
  cases s.busy <;> simp

theorem dsTurn_cases (s : State) :
    (s.running = true ∧ dsTurn s = tick s) ∨ (s.running = false ∧ dsTurn s = .next s) := by
  unfold dsTurn
  cases s.running <;> simp

theorem step_cases (s : State) :
    (s.turns = [] ∧ step s = .next s) ∨
    ∃ g rest, s.turns = g :: rest ∧ step s = agentTurn g (s.beginTurn rest) := by
  unfold step scheduledStep
  split
  · next h => exact .inl ⟨h, rfl⟩
  · next g rest h => exact .inr ⟨g, rest, h, rfl⟩

/-- A 32-bit access to offset 0 reaches `CMD`, whatever the open parameters are. -/
theorem locate_cmd (p : Params) : locate p (0x000#18).toNat .word = some (.reg .cmd) := rfl

/-- Every command answers a next state. -/
theorem exec_next (i : Instr) (s : State) : ∃ t, exec i s = .next t := by
  cases i with
  | init pin =>
    show ∃ t, execInit pin s = .next t
    unfold execInit
    split
    · exact ⟨_, rfl⟩
    · split <;> exact ⟨_, rfl⟩
  | reconfigure =>
    show ∃ t, execReconfigure s = .next t
    unfold execReconfigure
    split
    · exact ⟨_, rfl⟩
    · split <;> exact ⟨_, rfl⟩
  | setsrc rs mono =>
    show ∃ t, execSetsrc rs mono s = .next t
    unfold execSetsrc
    split <;> exact ⟨_, rfl⟩
  | start =>
    show ∃ t, execStart s = .next t
    unfold execStart
    split <;> exact ⟨_, rfl⟩
  | refill idx =>
    show ∃ t, execRefill idx s = .next t
    unfold execRefill
    split <;> exact ⟨_, rfl⟩
  | _ => exact ⟨_, rfl⟩

end Sys2Proof.Machine
end

