-- ==== Sys2Proof/Laws/Inv.lean ====
section
/-! SUPPORT. The invariants say nothing of the model's own fields, and the sizes they give. -/

namespace Sys2Proof.Machine

/-- The schedule, the host's operations and the free index are no part of the invariants. -/
theorem State.Inv.schedule {s : State} (h : s.Inv) (g : List Agent) (ops : List HostOp) (n : Nat) :
    State.Inv { s with turns := g, hostOps := ops, freeIdx := n } :=
  ⟨h.paramsWf, h.memWf, h.memWindows, h.enMask, h.runningInited, h.haltStopped, h.initedConfig, h.vol, h.cursor,
    h.pos, h.rfK, h.rfKIdle, h.busyInited, h.evqLength, h.evqTokens⟩

/-- What a host read returned is no part of the invariants. -/
theorem State.Inv.giveHost {s : State} (h : s.Inv) (v : Word) : (s.giveHost v).Inv :=
  ⟨h.paramsWf, h.memWf, h.memWindows, h.enMask, h.runningInited, h.haltStopped, h.initedConfig, h.vol, h.cursor,
    h.pos, h.rfK, h.rfKIdle, h.busyInited, h.evqLength, h.evqTokens⟩

/-- The bounds of the open parameters (00_scope R4). -/
theorem Params.wf_iff (p : Params) :
    p.wf = true ↔ 1 ≤ p.n ∧ p.n ≤ 8192 ∧ 1 ≤ p.s ∧ p.s ≤ 16384 ∧ 1 ≤ p.evqDepth := by
  simp [Params.wf, and_assoc]

/-- A staging half lasts at most `2^21` output words (41_volume_mixer R148 (e)). -/
theorem State.halfWords_le {s : State} (h : s.params.wf = true) : 1 ≤ s.halfWords ∧ s.halfWords ≤ 2 ^ 21 := by
  have hp := (Params.wf_iff _).1 h
  have hr : s.rs.toNat ≤ 7 := by have := s.rs.isLt; omega
  have h1 : 1 ≤ 2 ^ s.rs.toNat := Nat.one_le_two_pow
  have h2 : 2 ^ s.rs.toNat ≤ 2 ^ 7 := Nat.pow_le_pow_right (by decide) hr
  rw [State.halfWords, Nat.shiftLeft_eq]
  exact ⟨Nat.mul_pos (by omega) (by omega), by nlinarith⟩

end Sys2Proof.Machine
end

