-- ==== Sys2Proof/Laws/PerInstr.lean ====
section
/-! SUPPORT. Per-instruction statements over the syntax: family `TableRow` says that a command's encoding lies in its row of the opcode map (30_encoding R94). -/

namespace Sys2Proof.Laws.TableRow

/-- `(match, mask)` of a command's row in the opcode table (R94). -/
def row : Instr → Word × Word
  | .nop => (0x00000000#32, 0xFFFFFFFF#32)
  | .init _ => (0x01000000#32, 0xFFFFFF00#32)
  | .reconfigure => (0x02000000#32, 0xFFFFFFFF#32)
  | .setsrc _ _ => (0x03000000#32, 0xFFFFFEF8#32)
  | .start => (0x04000000#32, 0xFFFFFFFF#32)
  | .stop => (0x05000000#32, 0xFFFFFFFF#32)
  | .refill _ => (0x06000000#32, 0xFFFFFFFE#32)
  | .volUp => (0x07000000#32, 0xFFFFFFFF#32)
  | .volDown => (0x08000000#32, 0xFFFFFFFF#32)
  | .setVol _ => (0x09000000#32, 0xFFFF0000#32)
  | .clrErr => (0x0A000000#32, 0xFFFFFFFF#32)

/-- The command's word, masked, is its row's match value. -/
def Statement (i : Instr) : Prop := encode i &&& (row i).2 = (row i).1

theorem nop : Statement .nop := by unfold Statement; decide

theorem init (pin : Byte) : Statement (.init pin) := by
  unfold Statement
  revert pin
  decide

theorem reconfigure : Statement .reconfigure := by unfold Statement; decide

theorem setsrc (rs : BitVec 3) (mono : Bool) : Statement (.setsrc rs mono) := by
  unfold Statement
  revert rs mono
  decide

theorem start : Statement .start := by unfold Statement; decide

theorem stop : Statement .stop := by unfold Statement; decide

theorem refill (idx : Bit) : Statement (.refill idx) := by
  unfold Statement
  revert idx
  decide

theorem volUp : Statement .volUp := by unfold Statement; decide

theorem volDown : Statement .volDown := by unfold Statement; decide

theorem setVol (vol : Half) : Statement (.setVol vol) := by
  have hmask : (0xFFFF0000#32 : Word) = 0xFFFF#16 ++ 0#16 := by decide
  have hword : encode (.setVol vol) = 0x0900#16 ++ vol :=
    (BitVec.append_assoc (x₁ := 0x09#8) (x₂ := 0#8) (x₃ := vol)).symm
  show encode (.setVol vol) &&& (0xFFFF0000#32 : Word) = 0x09000000#32
  rw [hword, hmask, BitVec.and_append, BitVec.and_zero]
  decide

theorem clrErr : Statement .clrErr := by unfold Statement; decide

end Sys2Proof.Laws.TableRow
end

