-- ==== Sys2Proof/Tests/Slice0.lean ====
section
/-! SUPPORT. The model's own tests: words of 30_encoding R94 and 95_test_vectors 2.4, vectors of 95_test_vectors, the checks of WellFormed, and a witness for every statement with hypotheses. -/

namespace Sys2Proof.Tests

open Sys2Proof Sys2Proof.Machine

/-- The outcome is a next state with the property. -/
def nextWith (r : Result) (p : State → Bool) : Bool :=
  match r with
  | .next t => p t
  | .fault _ => false
  | .refused _ => false

/-! ## Decoding: a word of each row, written out from the encoding of R93 and R94 -/

theorem test_decode_nop : decodeWord 0x00000000#32 = .ok .nop := by decide
theorem test_decode_init : decodeWord 0x010000FF#32 = .ok (.init 255#8) := by decide
theorem test_decode_reconfigure : decodeWord 0x02000000#32 = .ok .reconfigure := by decide
theorem test_decode_setsrc : decodeWord 0x03000101#32 = .ok (.setsrc 1#3 true) := by decide
theorem test_decode_setsrc_rs7 : decodeWord 0x03000007#32 = .ok (.setsrc 7#3 false) := by decide
theorem test_decode_start : decodeWord 0x04000000#32 = .ok .start := by decide
theorem test_decode_stop : decodeWord 0x05000000#32 = .ok .stop := by decide
theorem test_decode_refill : decodeWord 0x06000001#32 = .ok (.refill 1#1) := by decide
theorem test_decode_volUp : decodeWord 0x07000000#32 = .ok .volUp := by decide
theorem test_decode_volDown : decodeWord 0x08000000#32 = .ok .volDown := by decide
theorem test_decode_setVol : decodeWord 0x09001234#32 = .ok (.setVol 0x1234#16) := by decide
theorem test_decode_clrErr : decodeWord 0x0A000000#32 = .ok .clrErr := by decide

/-- Reserved bits of the formats and unassigned opcodes (95_test_vectors 2.4). -/
theorem test_decode_illegal :
    [0x00000001#32, 0x01000100#32, 0x02000001#32, 0x03000008#32, 0x03000200#32, 0x04000001#32, 0x06000002#32,
      0x09010000#32, 0x0A800000#32, 0x0B000000#32, 0xFFFFFFFF#32, 0x80000000#32].all
      (fun w => (decodeWord w).toOption.isNone) = true := by decide

/-- The assembler lines of 30_encoding R98. -/
theorem test_encode_r98 :
    encode (.setsrc 1#3 true) = 0x03000101#32 ∧ encode (.init 7#8) = 0x01000007#32 ∧
    encode (.refill 1#1) = 0x06000001#32 ∧ encode (.setVol 0xFFFF#16) = 0x0900FFFF#32 := by decide

theorem test_decodeTableWord :
    decodeTableWord 32 0x01000007 = some (.init 7#8) ∧ decodeTableWord 32 0x0B000000 = none := by decide

/-! ## Well-formedness: an ill-formed term for each check -/

theorem test_params_wf : Params.wf ⟨4, 8, 8⟩ = true := by decide
theorem test_params_n_zero : Params.wf ⟨0, 8, 8⟩ = false := by decide
theorem test_params_n_large : Params.wf ⟨8193, 8, 8⟩ = false := by decide
theorem test_params_s_zero : Params.wf ⟨4, 0, 8⟩ = false := by decide
theorem test_params_s_large : Params.wf ⟨4, 16385, 8⟩ = false := by decide
theorem test_params_depth_zero : Params.wf ⟨4, 8, 0⟩ = false := by decide
theorem test_write_byte_too_wide : HostOp.wf (.write 0x20000#18 .byte 0x100#32) = false := by decide
theorem test_write_half_too_wide : HostOp.wf (.write 0x20000#18 .half 0x10000#32) = false := by decide
theorem test_write_half_fits : HostOp.wf (.write 0x20000#18 .half 0xFFFF#32) = true := by decide

/-! ## The mixer: rows of 95_test_vectors 2.1 and 2.2 -/

theorem test_round_div :
    roundDiv 25 10 = 3 ∧ roundDiv (-25) 10 = -3 ∧ roundDiv 24 10 = 2 ∧ roundDiv (-14) 10 = -1 ∧
    roundDiv (-327670) 10 = -32767 := by decide

theorem test_scale_wrap1000 :
    scale 1000#16 8#16 0#16 = 100#16 ∧ scale 1000#16 5#16 495#16 = 497#16 ∧
    scale 1000#16 5#16 65535#16 = 1000#16 := by decide

theorem test_scale_odd_wraps :
    scale 4095#16 9#16 1#16 = 206#16 ∧ scale 65535#16 3#16 40000#16 = 34937#16 ∧ scale 1#16 5#16 1#16 = 1#16 := by
  decide

/-! ## The commands: vectors of 95_test_vectors 2.3, 2.5, 2.6, 2.9 -/

/-- Reset with the vectors' parameters `N = 4`, `S = 8`, `EVQ_DEPTH = 8`. -/
def atReset : State := State.resetWith ⟨4, 8, 8⟩

/-- Inited and stopped, `CFG = 0x001003E8`. -/
def inited : State :=
  { atReset with
    arg := 0x001003E8#32
    wrap := 1000#16
    div := 16#16
    inited := true
    desc0 := ⟨0x00010000#32, 0x00000028#32, 4#32, 0x127#32⟩
    desc1 := ⟨0x00010010#32, 0x00000028#32, 4#32, 0x027#32⟩ }

/-- Running. -/
def running : State := { inited with enMask := 15#4 }

/-- V1: the words a host then reads. -/
theorem test_init_v1 :
    nextWith (exec (.init 0#8) { atReset with arg := 0x001003E8#32 })
      (fun t => t.statusWord == 1#32 && t.cfgWord == 0x001003E8#32 && t.mid == 500#16 &&
        t.desc0 == ⟨0x00010000#32, 0x28#32, 4#32, 0x127#32⟩ && t.desc1 == ⟨0x00010010#32, 0x28#32, 4#32, 0x27#32⟩) = true := by
  decide

/-- V2: a refused `INIT` stores nothing but the error. -/
theorem test_init_v2 :
    nextWith (exec (.init 7#8) { atReset with arg := 0x00100000#32 })
      (fun t => t.statusWord == 0x00020000#32 && t.errInfo == 0x01000007#32 && t.ringWord == 0#32) = true := by decide

/-- V4. -/
theorem test_reconfigure_v4 :
    nextWith (exec .reconfigure { inited with arg := 0x000807D0#32 })
      (fun t => t.cfgWord == 0x000807D0#32 && t.mid == 1000#16) = true := by decide

/-- V6: the state check comes before the operand check. -/
theorem test_reconfigure_v6 :
    nextWith (exec .reconfigure { running with arg := 0x00080000#32 }) (fun t => t.err == .state) = true := by decide

/-- V7. -/
theorem test_start_v7 :
    nextWith (exec .start { inited with act := 1#1, pos := 2#14 })
      (fun t => t.dmaStatWord == 0#32 && t.statusWord == 0xF03#32) = true := by decide

/-- V8: output is not restarted. -/
theorem test_start_v8 :
    nextWith (exec .start { running with act := 1#1, pos := 2#14 })
      (fun t => t.err == .state && t.errInfo == 0x04000000#32 && t.dmaStatWord == 0x00020001#32) = true := by decide

/-- V9. -/
theorem test_stop_v9 :
    nextWith (exec .stop { running with act := 1#1, pos := 3#14, cc := 7#32 })
      (fun t => t.enMask == 0#4 && t.dmaStatWord == 0x00030001#32 && t.cc == 7#32) = true := by decide

/-- V11. -/
theorem test_clrErr_v11 :
    nextWith (exec .clrErr { inited with err := .state, errInfo := 0x02000000#32, evqOvf := true })
      (fun t => t.statusWord == 1#32 && t.errInfo == 0#32) = true := by decide

/-- V13. -/
theorem test_nop_v13 : nextWith (exec .nop running) (fun t => t == running) = true := by decide

/-- V20: `PIN` is kept. -/
theorem test_setsrc_v20 :
    nextWith (exec (.setsrc 1#3 true) { inited with rs := 3#3, curHalf := 1#1, fillIdx := 1#1, cursor := 17#32, pin := 9#8 })
      (fun t => t.ringWord == 0x00000909#32 && t.cursor == 0#32) = true := by decide

/-- V21. -/
theorem test_setsrc_v21 :
    nextWith (exec (.setsrc 0#3 false) running)
      (fun t => t.err == .state && t.errInfo == 0x03000000#32) = true := by decide

/-- V24. -/
theorem test_refill_v24 :
    nextWith (exec (.refill 1#1) inited)
      (fun t => t.rfStatWord == 1#32 && t.statusWord == 5#32) = true := by decide

/-- V61: the latch keeps the first error. -/
theorem test_refill_v61 :
    nextWith (exec (.refill 0#1) { atReset with err := .config, errInfo := 0x01000007#32 })
      (fun t => t.err == .config && t.errInfo == 0x01000007#32 && !t.busy) = true := by decide

/-- 95_test_vectors 2.3. -/
theorem test_volUp_saturates :
    nextWith (exec .volUp { atReset with vol := 10#16 }) (fun t => t.vol == 10#16) = true := by decide
theorem test_volDown_saturates :
    nextWith (exec .volDown { atReset with vol := 0#16 }) (fun t => t.vol == 0#16) = true := by decide
theorem test_setVol_saturates :
    nextWith (exec (.setVol 0xFFFF#16) atReset) (fun t => t.vol == 10#16) = true := by decide
theorem test_setVol_stores :
    nextWith (exec (.setVol 3#16) atReset) (fun t => t.vol == 3#16) = true := by decide

/-! ## The hardware steps: V25, V41, V45 -/

/-- The start state of V25, refilling word 3 of `TB[1]` from the last sample of half 0. -/
def beforeV25 : State :=
  { inited with
    busy := true
    cursor := 7#32
    rfIdx := 1#1
    rfK := 3#14
    fillIdx := 1#1
    mem := (Memory.writeHalf [] (sbAddr ⟨4, 8, 8⟩ 0#1 0#1 7) 100#16).writeHalf (sbAddr ⟨4, 8, 8⟩ 0#1 1#1 7) 900#16 }

theorem test_refillWord_v25 :
    nextWith (cpTurn beforeV25)
      (fun t => t.tb 1#1 3 == 0x00B40334#32 && t.ringWord == 0x10#32 && t.cursor == 0#32 &&
        t.evq == [0x2#32] && t.rfStatWord == 1#32 && !t.busy) = true := by decide

/-- The start state of V41. -/
def beforeV41 : State :=
  { running with pos := 3#14, evq := [0x2#32], mem := Memory.writeWord [] 0x1000C 0x02E40104#32 }

theorem test_tick_v41 :
    nextWith (dsTurn beforeV41)
      (fun t => t.cc == 0x02E40104#32 && t.out == [0x02E40104#32] && t.dmaStatWord == 1#32 &&
        t.evq == [0x2#32, 0x1#32]) = true := by decide

/-- V45: the queue is full, the token is dropped. -/
theorem test_tick_v45 :
    nextWith (dsTurn { beforeV41 with params := ⟨4, 8, 1⟩ })
      (fun t => t.dmaStatWord == 1#32 && t.evq == [0x2#32] && t.evqOvf) = true := by decide

/-! ## Host accesses: V52, V54, V66, V76, V78, V84, V88 -/

/-- V52: the oldest token comes out first. -/
theorem test_pop_v52 :
    nextWith (hostStep .pop { atReset with evq := [0x10#32, 0x13#32] })
      (fun t => t.returned == [0x10#32] && t.evq == [0x13#32]) = true := by decide

/-- V54: a forged `TRANSFER_DONE(0)`. -/
theorem test_push_v54 :
    nextWith (hostStep (.pushExt 1#32) atReset)
      (fun t => t.evq == [] && t.err == .token && t.errInfo == 1#32) = true := by decide

/-- V66: an illegal word written while `BUSY` is held, not decoded. -/
theorem test_hold_v66 :
    nextWith (step (beforeV25.withFetchWord 32 0x0B000000))
      (fun t => !t.halt && t.hostOps == [.issue 0x0B000000#32]) = true := by decide

theorem test_write_desc_v76 :
    nextWith (hostStep (.write 0x040#18 .word 0#32) inited)
      (fun t => t.err == .access && t.errInfo == 0x40#32 && t.desc0 == inited.desc0) = true := by decide

/-- V78: a 16-bit write to `CMD` executes nothing; the address recorded is 0. -/
theorem test_write_cmd_half_v78 :
    nextWith (hostStep (.write 0x000#18 .half 0x0500#32) atReset)
      (fun t => t.err == .access && t.errInfo == 0#32) = true := by decide

/-- V84, V87. -/
theorem test_write_sb_v84 :
    nextWith (hostStep (.write 0x2003E#18 .half 0xFFFF#32) atReset)
      (fun t => t.sb 1#1 1#1 7 == 0xFFFF#16) = true := by decide

/-- V88: the bytes of `TB[0][1]`. -/
theorem test_bytes_v88 :
    (atReset.writeTb 0#1 1 0x024401A4#32).mem =
      [(0x10004, 0xA4#8), (0x10005, 0x01#8), (0x10006, 0x44#8), (0x10007, 0x02#8)] := by decide

/-- V60: the first step after reset runs the word it is given. -/
theorem test_first_step_v60 :
    nextWith (step (State.reset.withFetchWord 32 0x04000000))
      (fun t => t.statusWord == 0x00030000#32 && t.errInfo == 0x04000000#32) = true := by decide

/-- `POPULATE_NEXT` fills the half that is not current (42_staging R164): P1 reads `RING = 0x10`. -/
theorem test_populateNext_fills_half_0 :
    populateNextOps ⟨4, 1, 8⟩ 0x10#32 (fun _ => ⟨100#16, 900#16⟩) =
      [.write 0x20000#18 .half 100#32, .write 0x20002#18 .half 900#32] := by decide

/-- With `RING.MONO` set channel 1 is not written (R164). -/
theorem test_populateNext_mono :
    populateNextOps ⟨4, 1, 8⟩ 0x08#32 (fun _ => ⟨100#16, 900#16⟩) = [.write 0x20004#18 .half 100#32] := by decide

/-- `DRAIN` keeps all but the hardware's tokens (R226). -/
theorem test_keptTokens : keptTokens [0x2#32, 0x10#32, 0x101#32, 0x13#32, 0x0#32] = [0x10#32, 0x13#32] := by decide

/-- `MAIN_LOOP` (45_host_sequences R223). -/
theorem test_mainLoop :
    mainLoopAction 0x101#32 = .command (.refill 1#1) ∧ mainLoopAction 0x2#32 = .populateNext ∧
    mainLoopAction 0x14#32 = .haltLoop := by decide

/-! ## Witnesses: for every statement with hypotheses, values that meet all of them -/

/-- The host is to write a word to `CMD` and has the turn. -/
def issuing (s : State) (w : Word) : State := { s with turns := [.host], hostOps := [.issue w] }

theorem witness_StepRunsTheDecodedCommand :
    (issuing atReset 0x04000000#32).turns = .host :: [] ∧
    (issuing atReset 0x04000000#32).hostOps = .write 0x000#18 .word 0x04000000#32 :: [] ∧
    (issuing atReset 0x04000000#32).accepting ∧ decodeWord 0x04000000#32 = .ok .start := by decide

theorem witness_IllegalWordTakesTheFatalFault :
    (issuing running 0x0B000000#32).turns = .host :: [] ∧
    (issuing running 0x0B000000#32).hostOps = .write 0x000#18 .word 0x0B000000#32 :: [] ∧
    (issuing running 0x0B000000#32).accepting ∧ decodeWord 0x0B000000#32 = .error (.unassignedOp 0x0B#8) := by decide

/-- Halted by an illegal word. -/
def halted : State := { inited with halt := true, err := .illegalCmd, errInfo := 0x0B000000#32 }

theorem witness_HaltedBlockIgnoresCommands :
    (issuing halted 0x0A000000#32).turns = .host :: [] ∧
    (issuing halted 0x0A000000#32).hostOps = .write 0x000#18 .word 0x0A000000#32 :: [] ∧
    (issuing halted 0x0A000000#32).halt = true := by decide

theorem witness_BusyBlockHoldsCommands :
    (issuing beforeV25 0x07000000#32).turns = .host :: [] ∧
    (issuing beforeV25 0x07000000#32).hostOps = .write 0x000#18 .word 0x07000000#32 :: [] ∧
    (issuing beforeV25 0x07000000#32).halt = false ∧ (issuing beforeV25 0x07000000#32).busy = true := by decide

theorem witness_LegalWordsAreEncodings : decodeWord 0x0900FFFF#32 = .ok (.setVol 0xFFFF#16) := by decide

theorem witness_OpcodeRowsAreDisjoint :
    ∃ r ∈ opcodeMap, r.selects 0x010000FF#32 = true := ⟨_, List.mem_cons_of_mem _ List.mem_cons_self, by decide⟩

/-- A state each command's own effect starts from: `NOP`, `STOP`, the volume commands, `CLR_ERR`, and the
successful `RECONFIGURE`, `SETSRC`, `START`, `REFILL`. -/
theorem witness_commands_succeed :
    inited.accepting ∧ inited.running = false ∧ inited.inited = true ∧ inited.arg.extractLsb' 0 16 ≠ 0#16 := by decide

/-- The smallest legal `wrap`. -/
theorem witness_InitConfiguresTheOutput :
    State.accepting { atReset with arg := 0x00000001#32 } ∧ State.running { atReset with arg := 0x00000001#32 } = false ∧
    BitVec.extractLsb' 0 16 (0x00000001#32) ≠ 0#16 := by decide

theorem witness_InitConfiguresTheOutput_running : running.accepting ∧ running.running = true := by decide

theorem witness_InitConfiguresTheOutput_wrap_zero :
    atReset.accepting ∧ atReset.running = false ∧ atReset.arg.extractLsb' 0 16 = 0#16 := by decide

/-- Also the `E_STATE` clauses of `SETSRC` and `START`. -/
theorem witness_ReconfigureChangesPeriodAndDivider_running : running.accepting ∧ running.running = true := by decide

/-- Also the `E_STATE` clauses of `START` and `REFILL`. -/
theorem witness_ReconfigureChangesPeriodAndDivider_not_inited : atReset.accepting ∧ atReset.inited = false := by decide

theorem witness_ReconfigureChangesPeriodAndDivider_wrap_zero :
    State.accepting { inited with arg := 0xFFFF0000#32 } ∧ State.running { inited with arg := 0xFFFF0000#32 } = false ∧
    State.inited { inited with arg := 0xFFFF0000#32 } = true ∧
    BitVec.extractLsb' 0 16 (0xFFFF0000#32) = 0#16 := by decide

theorem witness_RefusalIsStickyFirst : atReset.err = .none ∧ halted.err ≠ .none := by decide

theorem witness_RefusalCausesAreTheListedOnes :
    running.accepting ∧ running.err = .none ∧ stateCause .start running = true ∧
    stateCause .reconfigure { inited with arg := 0#32 } = false ∧ configCause .reconfigure { inited with arg := 0#32 } = true ∧
    nextWith (exec .start running) (fun _ => true) = true := by decide

theorem witness_commands_frame : ∃ t, exec .start inited = .next t := exec_next _ _

theorem witness_RoundDiv_tie : (1 : Int) ≤ 10 ∧ 2 * |10 * roundDiv (-25) 10 - -25| = (10 : Int) := by decide

theorem witness_ScaleIsMonotone : (3#16 : Half).toNat ≤ (4#16 : Half).toNat := by decide

/-- Both sides of `WRAP`. -/
theorem witness_ScaleClampsOnlyAboveWrap :
    (10#16 : Half).toNat ≤ 10 ∧ (1000#16 : Half).toNat ≤ (1000#16 : Half).toNat ∧
    (1000#16 : Half).toNat < (1001#16 : Half).toNat := by decide

theorem witness_ScaleIsSymmetricAboutMid :
    (10#16 : Half).toNat ≤ 10 ∧ (0#16 : Half).toNat + (4094#16 : Half).toNat = 2 * ((4095#16 : Half).toNat / 2) := by
  decide

/-- `N = 2`, `S = 1`, running, refilling the buffer not in flight, every byte of TB and SB written. -/
def racing : State :=
  { State.resetWith ⟨2, 1, 2⟩ with
    inited := true
    busy := true
    enMask := 15#4
    wrap := 1000#16
    rfIdx := 1#1
    desc0 := ⟨0x00010000#32, 0x00000028#32, 2#32, 0x127#32⟩
    desc1 := ⟨0x00010008#32, 0x00000028#32, 2#32, 0x027#32⟩
    mem := (List.range 16).map (fun k => (0x10000 + k, 1#8)) ++ (List.range 8).map (fun k => (0x20000 + k, 1#8)) }

theorem racing_inv : racing.Inv where
  paramsWf := by decide
  memWf := by decide
  memWindows := by decide
  enMask := by decide
  runningInited := by decide
  haltStopped := by decide
  initedConfig := by decide
  vol := by decide
  cursor := by decide
  pos := by decide
  rfK := by decide
  rfKIdle := by decide
  busyInited := by decide
  evqLength := by decide
  evqTokens := fun _ h => by cases h

theorem halted_inv : halted.Inv where
  paramsWf := by decide
  memWf := by decide
  memWindows := by decide
  enMask := by decide
  runningInited := by decide
  haltStopped := by decide
  initedConfig := by decide
  vol := by decide
  cursor := by decide
  pos := by decide
  rfK := by decide
  rfKIdle := by decide
  busyInited := by decide
  evqLength := by decide
  evqTokens := fun _ h => by cases h

/-- Also the hypotheses of `RefillWordProducesOneWord`, `TickOutputsOneWord`, `StepKeepsTheInvariants`,
`GoodStatesNeverStop` and `MixerOperandsAreConstantDuringARefill`. -/
theorem witness_RefillWordProducesOneWord : racing.Inv ∧ racing.busy = true ∧ racing.running = true :=
  ⟨racing_inv, by decide, by decide⟩

/-- The last word of the refill and of the half, and of the pass. -/
theorem witness_RefillWordProducesOneWord_ends :
    State.Inv { racing with rfK := 1#14, pos := 1#14 } ∧ racing.cursor.toNat + 1 = racing.params.s * 2 ^ racing.rs.toNat :=
  ⟨{ racing_inv with rfK := by decide, pos := by decide, rfKIdle := by decide }, by decide⟩

theorem witness_RefillWordFrame : ∃ t, cpTurn racing = .next t := ⟨_, rfl⟩

theorem witness_RefillClosedForm :
    State.Inv { racing with turns := [.cp, .cp] } ∧ racing.busy = true ∧ racing.rfK = 0#14 ∧ racing.refillReadsWritten ∧
    State.turns { racing with turns := [.cp, .cp] } = List.replicate racing.params.n .cp ++ [] :=
  ⟨racing_inv.schedule _ _ _, by decide, by decide, by decide, by decide⟩

theorem witness_TickAndRefillWordCommute :
    racing.Inv ∧ racing.busy = true ∧ racing.running = true ∧ racing.act ≠ racing.rfIdx ∧
    (racing.pos.toNat + 1 ≠ racing.params.n ∨ racing.cursor.toNat + 1 ≠ racing.halfWords) :=
  ⟨racing_inv, by decide, by decide, by decide, by decide⟩

/-- `racing` at the start of a pass, with an interleaving of its refill and the pass. -/
def racingWholePass : State := { racing with turns := [.cp, .ds, .ds, .cp] }

/-- `racing` at the last word of a pass. -/
def racingLastWord : State := { racing with pos := 1#14, turns := [.cp, .ds, .cp] }

theorem witness_RefillWithinItsDeadlineIsGlitchFree :
    racingWholePass.Inv ∧ racingWholePass.busy = true ∧ racingWholePass.running = true ∧ racingWholePass.rfK = 0#14 ∧ racingWholePass.rfIdx ≠ racingWholePass.act ∧
    racingWholePass.refillReadsWritten ∧ (∀ k < racingWholePass.params.n, racingWholePass.pos.toNat ≤ k → racingWholePass.tbWritten racingWholePass.act k) ∧
    racingWholePass.turns = [Agent.cp, .ds, .ds, .cp] ++ [] ∧ List.count .cp [Agent.cp, .ds, .ds, .cp] = racingWholePass.params.n ∧
    List.count .ds [Agent.cp, .ds, .ds, .cp] = racingWholePass.params.n - racingWholePass.pos.toNat ∧ List.count .host [Agent.cp, .ds, .ds, .cp] = 0 :=
  ⟨racing_inv.schedule _ _ _, by decide, by decide, by decide, by decide, by decide, by decide, by decide, by decide,
    by decide, by decide⟩

/-- One `Tick` of the pass is left. -/
theorem witness_RefillWithinItsDeadlineIsGlitchFree_last_word :
    racingLastWord.Inv ∧ racingLastWord.busy = true ∧ racingLastWord.running = true ∧ racingLastWord.rfK = 0#14 ∧ racingLastWord.rfIdx ≠ racingLastWord.act ∧
    racingLastWord.refillReadsWritten ∧ (∀ k < racingLastWord.params.n, racingLastWord.pos.toNat ≤ k → racingLastWord.tbWritten racingLastWord.act k) ∧
    racingLastWord.turns = [Agent.cp, .ds, .cp] ++ [] ∧ List.count .cp [Agent.cp, .ds, .cp] = racingLastWord.params.n ∧
    List.count .ds [Agent.cp, .ds, .cp] = racingLastWord.params.n - racingLastWord.pos.toNat ∧ List.count .host [Agent.cp, .ds, .cp] = 0 :=
  ⟨(State.Inv.mk (s := { racing with pos := 1#14 }) racing_inv.1 racing_inv.2 racing_inv.3 racing_inv.4 racing_inv.5
    racing_inv.6 racing_inv.7 racing_inv.8 racing_inv.9 (by decide) racing_inv.11 racing_inv.12 racing_inv.13
    racing_inv.14 racing_inv.15).schedule _ _ _, by decide, by decide, by decide, by decide, by decide, by decide, by decide, by decide,
    by decide, by decide⟩

theorem witness_TickFrame : ∃ t, dsTurn racing = .next t := ⟨_, rfl⟩

theorem witness_TickStopsOnOtherDescriptors :
    State.running { atReset with enMask := 15#4 } = true ∧ atReset.desc0 ≠ canonicalDesc atReset.params 0#1 := by decide

theorem witness_DisabledAgentsDoNothing : atReset.busy = false ∧ atReset.running = false := by decide

theorem witness_TicksStreamTheTwoBuffersInTurn :
    State.Inv { racing with turns := [.ds, .ds, .ds] } ∧ racing.act = 0#1 ∧ racing.pos = 0#14 ∧
    (∀ i k, k < racing.params.n → racing.tbWritten i k) ∧
    State.turns { racing with turns := [.ds, .ds, .ds] } = List.replicate 3 .ds ++ [] :=
  ⟨racing_inv.schedule _ _ _, by decide, by decide, by decide, by decide⟩

theorem witness_EvqPushDropsWhenFull :
    atReset.evq.length < atReset.params.evqDepth ∧
    State.params { atReset with params := ⟨4, 8, 1⟩, evq := [2#32] } = ⟨4, 8, 1⟩ ∧ 1 ≤ [2#32].length := by decide

theorem witness_HostPopReturnsTheOldestToken : atReset.evq = [] ∧ beforeV41.evq = 0x2#32 :: [] := by decide

theorem witness_HostPushTakesTheExternalCodesOnly :
    (0x14#32 : Word) ≠ 0x10#32 ∧ (0x14#32 : Word) ≠ 0x11#32 ∧ (0x14#32 : Word) ≠ 0x12#32 ∧ (0x14#32 : Word) ≠ 0x13#32 := by
  decide

/-- The last word of TB and the last sample of SB; also the hypotheses of `HostWriteSbStoresOneSample`,
`MemoryLocationsAreDisjoint` and `CreateFillsBothHalves`. -/
theorem witness_HostReadsReturnTheMemories :
    atReset.params.wf = true ∧ 3 < atReset.params.n ∧ 7 < atReset.params.s := by decide

/-- One offset past each window (V83, V85), a hole of the map (V81), a wrong width (V77) and a byte access. -/
theorem witness_RefusedAccessesHaveNoEffect :
    ¬((0x10020#18).toNat % 4 = 0 ∧ ((0x10020#18).toNat ≤ 0x38 ∨ (0x40 ≤ (0x10020#18).toNat ∧ (0x10020#18).toNat ≤ 0x5C) ∨
      (0x10000 ≤ (0x10020#18).toNat ∧ (0x10020#18).toNat < 0x10000 + 8 * atReset.params.n))) ∧
    ¬((0x3C#18).toNat % 4 = 0 ∧ ((0x3C#18).toNat ≤ 0x38 ∨ (0x40 ≤ (0x3C#18).toNat ∧ (0x3C#18).toNat ≤ 0x5C) ∨
      (0x10000 ≤ (0x3C#18).toNat ∧ (0x3C#18).toNat < 0x10000 + 8 * atReset.params.n))) ∧
    ¬((0x20040#18).toNat % 2 = 0 ∧ 0x20000 ≤ (0x20040#18).toNat ∧ (0x20040#18).toNat < 0x20000 + 8 * atReset.params.s) ∧
    ¬((0x8#18).toNat % 2 = 0 ∧ 0x20000 ≤ (0x8#18).toNat ∧ (0x8#18).toNat < 0x20000 + 8 * atReset.params.s) := by decide

/-- The first and last read-only register, and the ends of the TB window. -/
theorem witness_RefusedAccessesHaveNoEffect_read_only :
    (0x08#18).toNat % 4 = 0 ∧ 0x08 ≤ (0x08#18).toNat ∧ (0x30#18).toNat ≤ 0x30 ∧ (0x5C#18).toNat % 4 = 0 ∧
    (0x5C#18).toNat ≤ 0x5C ∧ (0x1001C#18).toNat % 4 = 0 ∧ (0x1001C#18).toNat < 0x10000 + 8 * atReset.params.n := by decide

/-- A next state exists at a step of each agent from a state that meets the invariants; also the hypotheses
of `GoodStatesNeverStop`, `EachAgentWritesOnlyItsOwn`, `TokensEnterAtTheTailAndLeaveByPop` and
`MixerOperandsAreConstantDuringARefill`. -/
theorem witness_StepKeepsTheInvariants :
    State.Inv { racing with turns := [.cp] } ∧ State.resetNext { racing with turns := [.cp] } = false ∧
    nextWith (step { racing with turns := [.cp] }) (fun t => t.rfK == 1#14) = true ∧
    nextWith (step { racing with turns := [.ds] }) (fun t => t.cc == 0x01010101#32) = true :=
  ⟨racing_inv.schedule _ _ _, by decide, by decide, by decide⟩

/-- The loop waiting for a token, and with one popped. -/
def waiting : MainLoop := ⟨[], .nextToken, [], 0, 0⟩

theorem witness_MainLoopServesTheQueue :
    waiting.todo = [] ∧ waiting.kept = [] ∧ waiting.point = .nextToken ∧ atReset.evq = [] ∧ atReset.hostOps = [] ∧
    beforeV41.evq = 0x2#32 :: [] ∧ State.turns { running with turns := [.host], returned := [0x101#32] } = .host :: [] ∧
    MainLoop.point { waiting with point := .popped } = .popped ∧
    [0x101#32].getLast? = some (BitVec.ofNat 32 (1 + 256 * (1#1 : Bit).toNat)) ∧ running.accepting ∧
    0x14#32 ≠ 0x0#32 ∧ 0x14#32 ∉ queueTokens := by decide

/-- A pass of the loop over `TRANSFER_DONE(1)`, in two turns of the host (R223). -/
theorem test_mainLoop_refills :
    (match mainLoopRun (fun _ => ⟨44100, false⟩) (fun _ _ => ⟨0#16, 0#16⟩) 2 waiting
        { running with evq := [0x101#32], turns := [.host, .host] } with
      | (l, r) => l == waiting && nextWith r (fun t => t.busy && t.rfIdx == 1#1 && t.evq == [])) = true := by decide

theorem witness_HaltIsLeftOnlyByReset :
    State.Inv { halted with turns := [.host], hostOps := [.pop] } ∧ halted.halt = true ∧
    State.resetNext { halted with turns := [.host], hostOps := [.pop] } = false ∧
    nextWith (step { halted with turns := [.host], hostOps := [.pop] }) (fun t => t.returned == [0#32]) = true :=
  ⟨halted_inv.schedule _ _ _, by decide, by decide, by decide⟩

end Sys2Proof.Tests
end

/-! SUPPORT. The state family (10_state): what a command and a host access can do, the registers as a host read
returns them, and the invariants of R40 at reset and under every step. -/

namespace Sys2Proof.Machine

/-! ## What a command can do -/

/-- The whole effect of a command that nothing refuses (R122, R123, R145 to R147, R176 to R181). -/
def State.effect (s : State) : Instr → State
  | .nop => s
  | .init pin => { s with
      pin := pin
      wrap := s.argWrap
      div := s.argDiv
      desc0 := canonicalDesc s.params 0#1
      desc1 := canonicalDesc s.params 1#1
      inited := true }
  | .reconfigure => { s with wrap := s.argWrap, div := s.argDiv }
  | .setsrc rs mono => { s with rs := rs, mono := mono, curHalf := 0#1, fillIdx := 0#1, cursor := 0#32 }
  | .start => { s with act := 0#1, pos := 0#14 }.setEnMask 0b1111#4
  | .stop => s.setEnMask 0b0000#4
  | .refill idx => { s with rfIdx := idx, rfK := 0#14, busy := true }
  | .volUp => { s with vol := BitVec.ofNat 16 (min (s.vol.toNat + Config.volStep) Config.volOne) }
  | .volDown => { s with vol := BitVec.ofNat 16 (s.vol.toNat - Config.volStep) }
  | .setVol vol => { s with vol := BitVec.ofNat 16 (min vol.toNat Config.volOne) }
  | .clrErr => s.clearErrors

/-- A command is refused on a cause of R243, else on a cause of R244, else has its whole effect. -/
theorem exec_eq (i : Instr) (s : State) :
    exec i s = .next (if stateCause i s then s.refuse .state (encode i)
      else if configCause i s then s.refuse .config (encode i) else s.effect i) := by
  cases i with
  | init pin =>
    simp only [exec, execInit, stateCause, configCause, State.effect, beq_iff_eq]
    split_ifs <;> rfl
  | reconfigure =>
    simp only [exec, execReconfigure, stateCause, configCause, State.effect, beq_iff_eq]
    split_ifs <;> rfl
  | setsrc rs mono =>
    simp only [exec, execSetsrc, stateCause, configCause, State.effect, Bool.false_eq_true, if_false]
    split_ifs <;> rfl
  | start =>
    simp only [exec, execStart, stateCause, configCause, State.effect, Bool.false_eq_true, if_false]
    split_ifs <;> rfl
  | refill idx =>
    simp only [exec, execRefill, stateCause, configCause, State.effect, Bool.false_eq_true, if_false]
    split_ifs <;> rfl
  | _ => rfl

/-- The two outcomes of a command: a refusal, which needs a listed cause, or its whole effect. -/
theorem exec_cases {i : Instr} {s t : State} (h : exec i s = .next t) :
    ((stateCause i s = true ∨ configCause i s = true) ∧ ∃ code, t = s.refuse code (encode i)) ∨
    (stateCause i s = false ∧ configCause i s = false ∧ t = s.effect i) := by
  rw [exec_eq] at h
  cases h
  split_ifs with hs hc
  · exact .inl ⟨.inl hs, _, rfl⟩
  · exact .inl ⟨.inr hc, _, rfl⟩
  · exact .inr ⟨by simpa using hs, by simpa using hc, rfl⟩

/-- Settles O24: a refusal touches the latch alone and needs a cause, and an effect writes the fields named for
its command. -/
theorem onlyTheNamedCommandsWriteARegister : Obligations.OnlyTheNamedCommandsWriteARegister := by
  intro i s t h
  rcases exec_cases h with ⟨hcause, code, rfl⟩ | ⟨-, -, rfl⟩
  · rw [State.refuse_eq]
    simp [hcause]
  · cases i <;> simp [State.effect]

/-! ## What a host access can do -/

/-- Only the 32-bit location at offset 0 is `CMD` (R22, R61). -/
theorem locate_eq_cmd {p : Params} {a : Nat} {w : Width} (h : locate p a w = some (.reg .cmd)) :
    a = 0 ∧ w = .word := by
  unfold locate at h
  split at h
  · cases h
  · split at h <;> cases h
  · split at h
    · next r hl =>
      cases h
      obtain ⟨before, after, hmap, -⟩ := List.lookup_eq_some_iff.1 hl
      have hmem : (a, Reg.cmd) ∈ registerMap := by simp [hmap]
      exact ⟨by simpa [registerMap] using hmem, rfl⟩
    · split at h <;> cases h

/-- A sample location is an even offset in the SB window (R61, R63). -/
theorem locate_eq_sb {p : Params} {a b : Nat} {w : Width} (h : locate p a w = some (.sb b)) :
    b % 2 = 0 ∧ sbBase ≤ b ∧ b < sbBase + 8 * p.s := by
  unfold locate at h
  split at h
  · cases h
  · split at h
    · next hin => cases h; exact hin
    · cases h
  · split at h
    · cases h
    · split at h <;> cases h

/-- A host read gives the host a value, and but for it leaves the block alone, pops the queue or is refused. -/
theorem hostRead_cases (a : Addr) (w : Width) (s : State) :
    (∃ v, hostRead a w s = s.giveHost v) ∨ hostRead a w s = (s.giveHost s.evqHead).evqPop ∨
    hostRead a w s = (s.refuseAccess a).giveHost 0#32 := by
  unfold hostRead
  split
  · exact .inr (.inl rfl)
  · exact .inl ⟨_, rfl⟩
  · exact .inl ⟨_, rfl⟩
  · exact .inl ⟨_, rfl⟩
  · exact .inr (.inr rfl)

/-- A host write issues a command, sets `ARG`, pushes a token, stores a sample or is refused. -/
theorem hostWrite_cases {a : Addr} {w : Width} {v : Word} {s t : State} (h : hostWrite a w v s = .next t) :
    (a = 0#18 ∧ w = .word ∧ hostIssue v s = .next t) ∨ t = hostWriteArg v s ∨ t = hostPushExt v s ∨
    (∃ b, b % 2 = 0 ∧ sbBase ≤ b ∧ b < sbBase + 8 * s.params.s ∧
      t = s.setMem (s.mem.writeHalf b (v.setWidth 16))) ∨
    t = s.refuseAccess a := by
  unfold hostWrite at h
  split at h
  · next hl =>
    obtain ⟨ha, hw⟩ := locate_eq_cmd hl
    exact .inl ⟨BitVec.eq_of_toNat_eq ha, hw, h⟩
  · cases h; exact .inr (.inl rfl)
  · cases h; exact .inr (.inr (.inl rfl))
  · next b hl =>
    cases h
    obtain ⟨heven, hlo, hhi⟩ := locate_eq_sb hl
    exact .inr (.inr (.inr (.inl ⟨b, heven, hlo, hhi, rfl⟩)))
  · cases h; exact .inr (.inr (.inr (.inr rfl)))

/-- A command word that reaches `CP` is ignored, performed or fatal (R91, R96). -/
theorem hostIssue_cases {w : Word} {s t : State} (h : hostIssue w s = .next t) :
    (s.halt = true ∧ t = s) ∨ (s.halt = false ∧ ∃ i, decodeWord w = .ok i ∧ exec i s = .next t) ∨
    (s.halt = false ∧ t = s.fatal .illegalCmd w) := by
  unfold hostIssue at h
  split at h
  · next hh => cases h; exact .inl ⟨hh, rfl⟩
  · next hh =>
    have hrun : s.halt = false := by simpa using hh
    split at h
    · next i hd => exact .inr (.inl ⟨hrun, i, hd, h⟩)
    · cases h; exact .inr (.inr ⟨hrun, rfl⟩)

/-- A `CMD` write that is not held finds the block halted or idle (R91, R92). -/
theorem State.halt_or_idle_of_not_held {s : State} {v : Word} (h : s.holds (HostOp.issue v) = false) :
    s.halt = true ∨ s.busy = false := by
  cases hb : s.busy
  · exact .inr rfl
  · left; simpa [State.holds, HostOp.issue, HostOp.isIssue, hb] using h

/-! ## What a host read of a register returns -/

/-- A concatenation as the sum of its shifted parts. -/
theorem toNat_append_eq_add {m n : Nat} (x : BitVec m) (y : BitVec n) :
    (x ++ y).toNat = 2 ^ n * x.toNat + y.toNat := by
  rw [BitVec.toNat_append, Nat.shiftLeft_eq, Nat.mul_comm, Nat.two_pow_add_eq_or_of_lt y.isLt, Nat.mul_comm]

theorem State.statusWord_toNat (s : State) :
    s.statusWord.toNat = s.inited.toNat + 2 * (decide (s.enMask = 15#4)).toNat + 4 * s.busy.toNat +
      8 * s.halt.toNat + 16 * (decide (s.evq ≠ [])).toNat + 32 * s.evqOvf.toNat + 2 ^ 8 * s.enMask.toNat +
      2 ^ 16 * s.err.code.toNat := by
  have hrun : s.running = decide (s.enMask = 15#4) := rfl
  have hirq : s.irq = decide (s.evq ≠ []) := by cases he : s.evq <;> simp [State.irq, he]
  simp only [State.statusWord, hrun, hirq, toNat_append_eq_add, BitVec.toNat_ofBool, BitVec.toNat_ofNat]
  omega

theorem State.cfgWord_toNat (s : State) : s.cfgWord.toNat = 2 ^ 16 * s.div.toNat + s.wrap.toNat :=
  toNat_append_eq_add _ _

theorem State.ringWord_toNat (s : State) :
    s.ringWord.toNat = s.rs.toNat + 2 ^ 3 * s.mono.toNat + 2 ^ 4 * s.curHalf.toNat + 2 ^ 5 * s.fillIdx.toNat +
      2 ^ 8 * s.pin.toNat := by
  simp only [State.ringWord, toNat_append_eq_add, BitVec.toNat_ofBool, BitVec.toNat_ofNat]
  omega

theorem State.volWord_toNat (s : State) : s.volWord.toNat = s.vol.toNat := by
  simp only [State.volWord, toNat_append_eq_add, BitVec.toNat_ofNat]
  omega

theorem State.midWord_toNat (s : State) : s.midWord.toNat = s.wrap.toNat / 2 := by
  simp only [State.midWord, State.mid, midOf, toNat_append_eq_add, BitVec.toNat_ofNat, BitVec.toNat_ushiftRight,
    Nat.shiftRight_eq_div_pow]
  omega

theorem State.dmaStatWord_toNat (s : State) : s.dmaStatWord.toNat = s.act.toNat + 2 ^ 16 * s.pos.toNat := by
  simp only [State.dmaStatWord, toNat_append_eq_add, BitVec.toNat_ofNat]
  omega

theorem State.rfStatWord_toNat (s : State) : s.rfStatWord.toNat = s.rfIdx.toNat + 2 ^ 16 * s.rfK.toNat := by
  simp only [State.rfStatWord, toNat_append_eq_add, BitVec.toNat_ofNat]
  omega

theorem State.evqLevelWord_toNat (s : State) :
    s.evqLevelWord.toNat = if s.evq.length < 2 ^ 32 then s.evq.length
      else (Config.evqLevelOver s.freeIdx s.evq.length).toNat := by
  unfold State.evqLevelWord
  split_ifs with h
  · exact Nat.mod_eq_of_lt h
  · rfl

/-- A 32-bit read of a register other than `EVQ_POP` returns its value and changes nothing of the block (R66). -/
theorem hostStep_read_reg {s : State} {a : Addr} {r : Reg} {n : Nat} (hl : registerMap.lookup a.toNat = some r)
    (hr : r ≠ .evqPop) (hv : (s.regValue r).toNat = n) :
    hostStep (.read a .word) s = .next { s with returned := s.returned ++ [BitVec.ofNat 32 n] } := by
  have hloc : locate s.params a.toNat .word = some (.reg r) := by simp [locate, hl]
  have hread : hostRead a .word s = s.giveHost (s.regValue r) := by
    unfold hostRead
    rw [hloc]
    cases r with
    | evqPop => exact absurd rfl hr
    | _ => rfl
  subst hv
  simp [hostStep, hread, State.giveHost]

/-- Settles O45, one register after the other in the order of R61. -/
theorem hostReadsReturnTheRegisters : Obligations.HostReadsReturnTheRegisters := by
  intro s
  simp only [List.forall_mem_cons, List.not_mem_nil, false_imp_iff, implies_true, and_true]
  exact ⟨
    hostStep_read_reg (r := .cmd) rfl (by decide) rfl,
    hostStep_read_reg (r := .arg) rfl (by decide) rfl,
    hostStep_read_reg (r := .status) rfl (by decide) s.statusWord_toNat,
    hostStep_read_reg (r := .errInfo) rfl (by decide) rfl,
    hostStep_read_reg (r := .cfg) rfl (by decide) s.cfgWord_toNat,
    hostStep_read_reg (r := .ring) rfl (by decide) s.ringWord_toNat,
    hostStep_read_reg (r := .cursor) rfl (by decide) rfl,
    hostStep_read_reg (r := .vol) rfl (by decide) s.volWord_toNat,
    hostStep_read_reg (r := .mid) rfl (by decide) s.midWord_toNat,
    hostStep_read_reg (r := .dmaStat) rfl (by decide) s.dmaStatWord_toNat,
    hostStep_read_reg (r := .cc) rfl (by decide) rfl,
    hostStep_read_reg (r := .rfStat) rfl (by decide) s.rfStatWord_toNat,
    hostStep_read_reg (r := .evqPush) rfl (by decide) rfl,
    hostStep_read_reg (r := .evqLevel) rfl (by decide) s.evqLevelWord_toNat,
    hostStep_read_reg (r := .desc 0#1 .readAddr) rfl (by decide) rfl,
    hostStep_read_reg (r := .desc 0#1 .writeAddr) rfl (by decide) rfl,
    hostStep_read_reg (r := .desc 0#1 .count) rfl (by decide) rfl,
    hostStep_read_reg (r := .desc 0#1 .ctrl) rfl (by decide) rfl,
    hostStep_read_reg (r := .desc 1#1 .readAddr) rfl (by decide) rfl,
    hostStep_read_reg (r := .desc 1#1 .writeAddr) rfl (by decide) rfl,
    hostStep_read_reg (r := .desc 1#1 .count) rfl (by decide) rfl,
    hostStep_read_reg (r := .desc 1#1 .ctrl) rfl (by decide) rfl⟩

/-- Settles O44: offset `0x004` is `ARG`, whatever the open parameters are. -/
theorem hostWriteArgSetsArg : Obligations.HostWriteArgSetsArg := fun _ _ => rfl

/-! ## Reset -/

/-- Settles O50, field by field. -/
theorem resetStateIsTheTable : Obligations.ResetStateIsTheTable := by
  unfold Obligations.ResetStateIsTheTable
  and_intros <;> intros <;> rfl

/-- Reset meets the invariants for every choice of the open parameters in their bounds. -/
theorem State.resetWith_inv {p : Params} (hp : p.wf = true) : (State.resetWith p).Inv where
  paramsWf := hp
  memWf := rfl
  memWindows := by simp [State.resetWith]
  enMask := .inl rfl
  runningInited := by simp [State.resetWith, State.running]
  haltStopped := by simp [State.resetWith]
  initedConfig := by simp [State.resetWith]
  vol := by simp [State.resetWith, Config.volReset, Config.volOne]
  cursor := (State.halfWords_le (s := State.resetWith p) hp).1
  pos := ((Params.wf_iff p).1 hp).1
  rfK := ((Params.wf_iff p).1 hp).1
  rfKIdle _ := rfl
  busyInited := by simp [State.resetWith]
  evqLength := Nat.zero_le _
  evqTokens := by simp [State.resetWith]

/-- The open parameters lie in the bounds of R4. -/
theorem Config.params_wf : Config.params.wf = true := by
  have hn := Config.nLessOne.isLt
  have hs := Config.sLessOne.isLt
  rw [Params.wf_iff]
  simp only [Config.params]
  omega

/-- Settles O53. -/
theorem resetMeetsTheInvariants : Obligations.ResetMeetsTheInvariants := State.resetWith_inv Config.params_wf

/-! ## Facts of the memory map, the descriptors and the tokens -/

/-- Every word of a TransferBuffer lies in the TB window (R61). -/
theorem tbAddr_window (p : Params) (i : Bit) {k : Nat} (hk : k < p.n) :
    tbBase ≤ tbAddr p i k ∧ tbAddr p i k + 4 ≤ tbBase + 8 * p.n := by
  have hi : i.toNat * p.n ≤ 1 * p.n := Nat.mul_le_mul_right _ (by omega)
  unfold tbAddr
  omega

/-- A canonical descriptor transfers `N` words, a count its 14 bits hold (R103, R201). -/
theorem canonicalDesc_transfers {p : Params} (hp : p.wf = true) (i : Bit) :
    (canonicalDesc p i).transfers.toNat = p.n := by
  obtain ⟨-, hn, -⟩ := (Params.wf_iff p).1 hp
  simp only [Descriptor.transfers, canonicalDesc, BitVec.extractLsb'_toNat, BitVec.toNat_ofNat]
  omega

theorem State.desc_eq_canonicalDesc {s : State} (h : s.descCanonical = true) (i : Bit) :
    s.desc i = canonicalDesc s.params i := by
  obtain ⟨h0, h1⟩ : s.desc0 = canonicalDesc s.params 0#1 ∧ s.desc1 = canonicalDesc s.params 1#1 := by
    simpa [State.descCanonical] using h
  rcases BitVec.eq_zero_or_eq_one i with rfl | rfl
  · exact h0
  · exact h1

theorem tokenTransferDone_mem_queueTokens (i : Bit) : tokenTransferDone i ∈ queueTokens := by
  revert i
  decide

/-! ## The shared operations keep the invariants -/

namespace State.Inv

variable {s : State}

theorem beginTurn (h : s.Inv) (rest : List Agent) : (s.beginTurn rest).Inv := h.schedule _ _ _

theorem setHostOps (h : s.Inv) (ops : List HostOp) : (s.setHostOps ops).Inv := h.schedule _ _ _

/-- A halted block has its error latched, so a refusal leaves it as it is. -/
theorem refuse (h : s.Inv) (code : ErrCode) (info : Word) : (s.refuse code info).Inv := by
  rcases s.refuse_cases code info with ⟨hfree, e⟩ | ⟨-, e⟩
  · rw [e]
    refine { h with haltStopped := fun hh => ?_ }
    obtain ⟨-, -, herr⟩ := h.haltStopped hh
    rw [herr] at hfree
    contradiction
  · rwa [e]

theorem evqPush (h : s.Inv) {t : Word} (ht : t ∈ queueTokens) : (s.evqPush t).Inv := by
  have hlen := s.evqPush_length t h.evqLength
  have htok : ∀ u ∈ (s.evqPush t).evq, u ∈ queueTokens := fun u hu => by
    rcases State.mem_evqPush hu with hu | rfl
    · exact h.evqTokens u hu
    · exact ht
  rw [State.evqPush_eq]
  exact { h with evqLength := hlen, evqTokens := htok }

theorem evqPop (h : s.Inv) : s.evqPop.Inv :=
  { h with
    evqLength := s.evq.tail_sublist.length_le.trans h.evqLength
    evqTokens := fun t ht => h.evqTokens t (List.mem_of_mem_tail ht) }

/-- Storing one sample inside the SB window. -/
theorem writeHalf (h : s.Inv) {a : Nat} (v : Half) (heven : a % 2 = 0) (hlo : sbBase ≤ a)
    (hhi : a < sbBase + 8 * s.params.s) : (s.setMem (s.mem.writeHalf a v)).Inv :=
  { h with
    memWf := Memory.wf_writeHalf a v h.memWf
    memWindows := fun c hc => by
      rcases Memory.mem_writeHalf hc with ⟨hge, hlt⟩ | hc
      · right
        simp only [sbBase, State.setMem_params] at *
        omega
      · exact h.memWindows c hc }

theorem writeTb (h : s.Inv) (i : Bit) {k : Nat} (w : Word) (hk : k < s.params.n) : (s.writeTb i k w).Inv :=
  { h with
    memWf := Memory.wf_writeWord _ w h.memWf
    memWindows := fun c hc => by
      obtain ⟨hlo, hhi⟩ := tbAddr_window s.params i hk
      rcases Memory.mem_writeWord hc with ⟨hge, hlt⟩ | hc
      · left
        simp only [State.writeTb_params]
        omega
      · exact h.memWindows c hc }

theorem outputWord (h : s.Inv) (w : Word) : (s.outputWord w).Inv := { h with }

theorem hostWriteArg (h : s.Inv) (v : Word) : (hostWriteArg v s).Inv := { h with }

theorem hostPushExt (h : s.Inv) (v : Word) : (hostPushExt v s).Inv := by
  unfold Machine.hostPushExt
  split
  · next hv => exact h.evqPush (List.mem_append_right _ hv)
  · exact h.refuse _ _

theorem afterReset (h : s.Inv) : s.afterReset.Inv := (State.resetWith_inv h.paramsWf).schedule _ _ _

/-- The fatal fault finds no refill in progress: `CP` takes no command while `BUSY`. -/
theorem fatal (h : s.Inv) (hb : s.busy = false) (info : Word) : (s.fatal .illegalCmd info).Inv :=
  { h with
    enMask := .inl rfl
    runningInited := fun hr => absurd hr (by simp [State.running])
    haltStopped := fun _ => ⟨rfl, hb, rfl⟩ }

/-! ## The commands -/

/-- What a command that `CP` accepts and nothing refuses does. -/
theorem effect (h : s.Inv) (ha : s.accepting) {i : Instr} (hs : stateCause i s = false)
    (hc : configCause i s = false) : (s.effect i).Inv := by
  obtain ⟨hhalt, hbusy⟩ := ha
  have hn : 0 < s.params.n := ((Params.wf_iff _).1 h.paramsWf).1
  have hnohalt {P : Prop} (hh : s.halt = true) : P := by simp [hhalt] at hh
  cases i with
  | nop => exact h
  | init pin =>
    have hwrap : s.argWrap ≠ 0#16 := by simpa [configCause] using hc
    exact { h with
      runningInited := fun _ => rfl
      initedConfig := fun _ => ⟨Nat.pos_of_ne_zero fun e => hwrap (BitVec.eq_of_toNat_eq e),
        by simp [State.effect, State.descCanonical]⟩
      busyInited := fun _ => rfl }
  | reconfigure =>
    have hwrap : s.argWrap ≠ 0#16 := by simpa [configCause] using hc
    exact { h with
      initedConfig := fun hi => ⟨Nat.pos_of_ne_zero fun e => hwrap (BitVec.eq_of_toNat_eq e), (h.initedConfig hi).2⟩ }
  | setsrc rs mono =>
    exact { h with cursor := (State.halfWords_le (s := s.effect (.setsrc rs mono)) h.paramsWf).1 }
  | start =>
    have hinited : s.inited = true := by
      simp only [stateCause, Bool.or_eq_false_iff, Bool.not_eq_false'] at hs
      exact hs.2
    exact { h with
      enMask := .inr rfl
      runningInited := fun _ => hinited
      haltStopped := hnohalt
      pos := hn }
  | stop =>
    exact { h with
      enMask := .inl rfl
      runningInited := fun hr => absurd hr (by simp [State.effect, State.running])
      haltStopped := hnohalt }
  | refill idx =>
    have hinited : s.inited = true := by simpa [stateCause] using hs
    exact { h with
      haltStopped := hnohalt
      rfK := hn
      rfKIdle := fun _ => rfl
      busyInited := fun _ => hinited }
  | volUp =>
    exact { h with vol := by simp only [State.effect, Config.volOne, BitVec.toNat_ofNat]; omega }
  | volDown =>
    have hv := h.vol
    exact { h with vol := by simp only [State.effect, Config.volOne, Config.volStep, BitVec.toNat_ofNat] at *; omega }
  | setVol vol =>
    exact { h with vol := by simp only [State.effect, Config.volOne, BitVec.toNat_ofNat]; omega }
  | clrErr => exact { h with haltStopped := hnohalt }

theorem exec (h : s.Inv) (ha : s.accepting) {i : Instr} {t : State} (he : exec i s = .next t) : t.Inv := by
  rcases exec_cases he with ⟨-, code, rfl⟩ | ⟨hs, hc, rfl⟩
  · exact h.refuse _ _
  · exact h.effect ha hs hc

theorem hostIssue (h : s.Inv) {w : Word} {t : State} (hb : s.halt = true ∨ s.busy = false)
    (hi : hostIssue w s = .next t) : t.Inv := by
  rcases hostIssue_cases hi with ⟨-, rfl⟩ | ⟨hh, i, -, he⟩ | ⟨hh, rfl⟩
  · exact h
  · exact h.exec ⟨hh, by simpa [hh] using hb⟩ he
  · exact h.fatal (by simpa [hh] using hb) w

/-! ## The turns of the agents -/

theorem hostRead (h : s.Inv) (a : Addr) (w : Width) : (hostRead a w s).Inv := by
  rcases hostRead_cases a w s with ⟨v, e⟩ | e | e <;> rw [e]
  · exact h.giveHost v
  · exact (h.giveHost _).evqPop
  · exact (h.refuse _ _).giveHost _

theorem hostStep (h : s.Inv) {op : HostOp} {t : State} (hop : s.holds op = false)
    (hs : hostStep op s = .next t) : t.Inv := by
  cases op with
  | read a w => cases hs; exact h.hostRead a w
  | write a w v =>
    rcases hostWrite_cases hs with ⟨rfl, rfl, hi⟩ | rfl | rfl | ⟨b, heven, hlo, hhi, rfl⟩ | rfl
    · exact h.hostIssue (State.halt_or_idle_of_not_held hop) hi
    · exact h.hostWriteArg v
    · exact h.hostPushExt v
    · exact h.writeHalf _ heven hlo hhi
    · exact h.refuse _ _
  | reset => cases hs; exact h.afterReset

theorem hostTurn (h : s.Inv) {t : State} (ht : hostTurn s = .next t) : t.Inv := by
  rcases hostTurn_cases ht with ⟨-, rfl⟩ | ⟨op, ops, -, ⟨-, rfl⟩ | ⟨hop, hs⟩⟩
  · exact h
  · exact h
  · exact (h.setHostOps ops).hostStep hop hs

/-- The cursor stays inside its half, whose size is far below the register's 32 bits (R29, R124). -/
theorem advanceCursor (h : s.Inv) : s.advanceCursor.Inv := by
  have hcur := h.cursor
  obtain ⟨hpos, hsize⟩ := State.halfWords_le h.paramsWf
  rcases s.advanceCursor_cases with ⟨-, e⟩ | ⟨hne, e⟩ <;> rw [e]
  · exact State.Inv.evqPush (s := { s with curHalf := s.curHalf.other, cursor := 0#32 })
      { h with cursor := hpos } (by decide)
  · refine { h with cursor := ?_ }
    show (s.cursor + 1#32).toNat < s.halfWords
    rw [BitVec.toNat_add, BitVec.toNat_ofNat] at *
    omega

/-- A refill in progress is not halted, so its end or its next word is good (R124). -/
theorem advanceRefill (h : s.Inv) (hb : s.busy = true) : s.advanceRefill.Inv := by
  have hk := h.rfK
  obtain ⟨hn, hn', -⟩ := (Params.wf_iff _).1 h.paramsWf
  have hbusy {P : Prop} (hf : s.busy = false) : P := by simp [hb] at hf
  rcases s.advanceRefill_cases with ⟨-, e⟩ | ⟨hne, e⟩ <;> rw [e]
  · exact { h with
      haltStopped := fun hh => hbusy (h.haltStopped hh).2.1
      rfK := hn
      rfKIdle := fun _ => rfl
      busyInited := fun hf => by cases hf }
  · refine { h with rfK := ?_, rfKIdle := hbusy }
    show (s.rfK + 1#14).toNat < s.params.n
    rw [BitVec.toNat_add, BitVec.toNat_ofNat] at *
    omega

theorem cpTurn (h : s.Inv) {t : State} (ht : cpTurn s = .next t) : t.Inv := by
  rcases cpTurn_cases s with ⟨hb, e⟩ | ⟨-, e⟩ <;> rw [e] at ht <;> cases ht
  · refine ((h.writeTb _ _ h.rfK).advanceCursor).advanceRefill ?_
    rw [State.advanceCursor_eq]
    exact hb
  · exact h

/-- The position stays below the descriptor's count, which is `N` (R203). -/
theorem advanceDma (h : s.Inv) {d : Descriptor} (hd : d.transfers.toNat = s.params.n) : (s.advanceDma d).Inv := by
  obtain ⟨hn, hn', -⟩ := (Params.wf_iff _).1 h.paramsWf
  have hp := h.pos
  have hrestart : State.Inv { s with pos := 0#14, act := d.chainTo } := { h with pos := hn }
  rcases s.advanceDma_cases d with ⟨-, -, e⟩ | ⟨-, -, e⟩ | ⟨hne, e⟩ <;> rw [e]
  · exact hrestart.evqPush (tokenTransferDone_mem_queueTokens _)
  · exact hrestart
  · refine { h with pos := ?_ }
    show (s.pos + 1#14).toNat < s.params.n
    have hcount : (s.pos + 1#14).toNat ≠ s.params.n := fun he => hne (BitVec.eq_of_toNat_eq (he.trans hd.symm))
    rw [BitVec.toNat_add, BitVec.toNat_ofNat] at *
    omega

theorem dsTurn (h : s.Inv) {t : State} (ht : dsTurn s = .next t) : t.Inv := by
  rcases dsTurn_cases s with ⟨-, e⟩ | ⟨-, e⟩ <;> rw [e] at ht
  · obtain ⟨hcanon, rfl⟩ := (tick_next_iff s t).1 ht
    refine (h.outputWord _).advanceDma ?_
    rw [State.desc_eq_canonicalDesc hcanon]
    exact canonicalDesc_transfers h.paramsWf _
  · cases ht
    exact h

theorem agentTurn (h : s.Inv) {g : Agent} {t : State} (ht : agentTurn g s = .next t) : t.Inv := by
  cases g with
  | host => exact h.hostTurn ht
  | cp => exact h.cpTurn ht
  | ds => exact h.dsTurn ht

end State.Inv

/-- Settles O52: with nothing scheduled nothing happens, and the turn of each agent keeps the invariants. -/
theorem stepKeepsTheInvariants : Obligations.StepKeepsTheInvariants := by
  intro s t h ht
  rcases step_cases s with ⟨-, e⟩ | ⟨g, rest, -, e⟩ <;> rw [e] at ht
  · cases ht
    exact h
  · exact (h.beginTurn rest).agentTurn ht

end Sys2Proof.Machine

/-! SUPPORT. The memory family (20_memory): the frames of the commands and of the hardware steps, the memory map,
the host's accesses, and which agent writes what. -/

namespace Sys2Proof.Machine

/-! ## Frames of the commands and of the hardware steps -/

/-- Settles O23: a refusal touches the latch alone, and no command's effect names one of these fields. -/
theorem commandsLeaveMemoryOutputAndQueue : Obligations.CommandsLeaveMemoryOutputAndQueue := by
  intro i s t h
  rcases exec_cases h with ⟨-, code, rfl⟩ | ⟨-, -, rfl⟩
  · rw [State.refuse_eq]
    and_intros <;> intros <;> rfl
  · cases i <;> and_intros <;> intros <;> rfl

/-- A push touches the queue and its overflow flag only as R248 says: at most one token `u` at the tail, and the
flag set only by a full queue. -/
def State.MayPush (s t : State) (u : Word) : Prop :=
  (t.evqOvf = s.evqOvf ∧ (t.evq = s.evq ∨ t.evq = s.evq ++ [u])) ∨
  (t.evqOvf = true ∧ s.params.evqDepth ≤ s.evq.length ∧ t.evq = s.evq)

theorem State.MayPush.refl (s : State) (u : Word) : s.MayPush s u := .inl ⟨rfl, .inl rfl⟩

theorem State.evqPush_mayPush (s : State) (u : Word) : s.MayPush (s.evqPush u) u := by
  rcases s.evqPush_cases u with ⟨-, e⟩ | ⟨hfull, e⟩ <;> rw [e]
  · exact .inl ⟨rfl, .inr rfl⟩
  · exact .inr ⟨rfl, hfull, rfl⟩

/-- `RefillWord` stores one word and touches the ring's registers, the queue and its overflow flag alone. -/
theorem refillWord_eq (s : State) :
    refillWord s = { s with
      mem := s.mem.writeWord (tbAddr s.params s.rfIdx s.rfK.toNat) s.mixedWord
      cursor := (refillWord s).cursor
      curHalf := (refillWord s).curHalf
      evq := (refillWord s).evq
      evqOvf := (refillWord s).evqOvf
      rfK := (refillWord s).rfK
      busy := (refillWord s).busy
      fillIdx := (refillWord s).fillIdx } := by
  unfold refillWord
  rcases (s.writeTb s.rfIdx s.rfK.toNat s.mixedWord).advanceCursor.advanceRefill_cases with ⟨-, e⟩ | ⟨-, e⟩ <;>
    rw [e, State.advanceCursor_eq] <;> rfl

theorem refillWord_mayPush (s : State) : s.MayPush (refillWord s) tokenStagingReq := by
  have hcursor : s.MayPush (s.writeTb s.rfIdx s.rfK.toNat s.mixedWord).advanceCursor tokenStagingReq := by
    rcases (s.writeTb s.rfIdx s.rfK.toNat s.mixedWord).advanceCursor_cases with ⟨-, e⟩ | ⟨-, e⟩ <;> rw [e]
    · exact State.evqPush_mayPush _ _
    · exact .refl _ _
  unfold refillWord
  rcases (s.writeTb s.rfIdx s.rfK.toNat s.mixedWord).advanceCursor.advanceRefill_cases with ⟨-, e⟩ | ⟨-, e⟩ <;>
    rw [e] <;> exact hcursor

/-- A byte reads alike in two states with the same entry for it and the same free index. -/
theorem State.readByte_congr {s t : State} {a : Nat} (hf : t.freeIdx = s.freeIdx)
    (h : t.mem.lookup a = s.mem.lookup a) : t.readByte a = s.readByte a := by
  simp only [State.readByte, hf, h]

/-- Settles O32: the word stored is the only one, and the ring's registers are the only ones. -/
theorem refillWordFrame : Obligations.RefillWordFrame := by
  intro s t h
  rcases cpTurn_cases s with ⟨-, e⟩ | ⟨-, e⟩ <;> rw [e] at h <;> cases h
  · rw [refillWord_eq]
    refine ⟨fun a ha => ?_, ?_⟩
    · have hlook := Memory.lookup_writeWord_outside s.mem _ s.mixedWord a ha
      exact ⟨State.readByte_congr rfl hlook, hlook⟩
    · and_intros <;> rfl
  · simp

/-- The position part of `Tick` touches `POS`, `ACT`, the queue and its overflow flag alone. -/
theorem State.advanceDma_eq (s : State) (d : Descriptor) :
    s.advanceDma d = { s with
      pos := (s.advanceDma d).pos
      act := (s.advanceDma d).act
      evq := (s.advanceDma d).evq
      evqOvf := (s.advanceDma d).evqOvf } := by
  rcases s.advanceDma_cases d with ⟨-, -, e⟩ | ⟨-, -, e⟩ | ⟨-, e⟩ <;> rw [e]
  rw [State.evqPush_eq]

theorem State.advanceDma_mayPush (s : State) (d : Descriptor) :
    s.MayPush (s.advanceDma d) (tokenTransferDone s.act) := by
  rcases s.advanceDma_cases d with ⟨-, -, e⟩ | ⟨-, -, e⟩ | ⟨-, e⟩ <;> rw [e]
  · exact State.evqPush_mayPush _ _
  · exact .refl _ _
  · exact .refl _ _

/-- The turn of `DS` touches `CC`, the ghost `OUT`, `POS`, `ACT`, the queue and its overflow flag alone. -/
theorem dsTurn_eq {s t : State} (h : dsTurn s = .next t) :
    t = { s with cc := t.cc, out := t.out, pos := t.pos, act := t.act, evq := t.evq, evqOvf := t.evqOvf } := by
  rcases dsTurn_cases s with ⟨-, e⟩ | ⟨-, e⟩ <;> rw [e] at h
  · obtain ⟨-, rfl⟩ := (tick_next_iff s t).1 h
    rw [State.advanceDma_eq]
    rfl
  · cases h
    rfl

theorem dsTurn_mayPush {s t : State} (h : dsTurn s = .next t) : s.MayPush t (tokenTransferDone s.act) := by
  rcases dsTurn_cases s with ⟨-, e⟩ | ⟨-, e⟩ <;> rw [e] at h
  · obtain ⟨-, rfl⟩ := (tick_next_iff s t).1 h
    exact State.advanceDma_mayPush _ _
  · cases h
    exact .refl _ _

/-- Settles O37. -/
theorem tickFrame : Obligations.TickFrame := by
  intro s t h
  rw [dsTurn_eq h]
  and_intros <;> intros <;> rfl

/-! ## The memory map -/

/-- Places in blocks of one size that follow one another differ when the block or the place in it does. -/
theorem block_place_ne {size b b' k k' : Nat} (hk : k < size) (hk' : k' < size) (hne : ¬(b = b' ∧ k = k')) :
    b * size + k ≠ b' * size + k' := by
  intro he
  have hpos : 0 < size := Nat.zero_lt_of_lt hk
  obtain ⟨hb, hplace⟩ : (b * size + k) / size = b ∧ (b * size + k) % size = k :=
    (Nat.div_mod_unique hpos).2 ⟨by ring, hk⟩
  obtain ⟨hb', hplace'⟩ : (b * size + k) / size = b' ∧ (b * size + k) % size = k' :=
    (Nat.div_mod_unique hpos).2 ⟨by rw [he]; ring, hk'⟩
  exact hne ⟨hb.symm.trans hb', hplace.symm.trans hplace'⟩

/-- Every sample of the staging buffer lies in the SB window (R61). -/
theorem sbAddr_window (p : Params) (h c : Bit) {j : Nat} (hj : j < p.s) :
    sbBase ≤ sbAddr p h c j ∧ sbAddr p h c j + 2 ≤ sbBase + 8 * p.s := by
  have hblock : (2 * h.toNat + c.toNat) * p.s ≤ 3 * p.s := Nat.mul_le_mul_right _ (by omega)
  unfold sbAddr
  omega

/-- Settles O49: each window is cut into blocks of `N` words or `S` samples that follow one another. -/
theorem memoryLocationsAreDisjoint : Obligations.MemoryLocationsAreDisjoint := by
  intro p hp
  obtain ⟨-, hn, -, hs, -⟩ := (Params.wf_iff p).1 hp
  refine ⟨?_, ?_, ?_⟩
  · intro i i' k k' hk hk' hne
    have hplace := block_place_ne (b := i.toNat) (b' := i'.toNat) hk hk' fun ⟨hi, hkk⟩ =>
      hne (Prod.ext (BitVec.eq_of_toNat_eq hi) hkk)
    unfold tbAddr
    omega
  · intro h h' c c' j j' hj hj' hne
    have hplace := block_place_ne (b := 2 * h.toNat + c.toNat) (b' := 2 * h'.toNat + c'.toNat) hj hj' fun ⟨hb, hjj⟩ =>
      hne (by
        have hh : h = h' := BitVec.eq_of_toNat_eq (by omega)
        have hc : c = c' := BitVec.eq_of_toNat_eq (by omega)
        rw [hh, hc, hjj])
    unfold sbAddr
    omega
  · intro i h c k j hk hj
    obtain ⟨htlo, hthi⟩ := tbAddr_window p i hk
    obtain ⟨hslo, hshi⟩ := sbAddr_window p h c hj
    simp only [tbBase, sbBase] at *
    omega

/-- The offsets of the registers are the words from `0x00` to `0x38` and from `0x40` to `0x5C` (R61). -/
theorem registerMap_lookup_eq_none_iff (a : Nat) :
    registerMap.lookup a = none ↔ ¬(a % 4 = 0 ∧ (a ≤ 0x38 ∨ 0x40 ≤ a ∧ a ≤ 0x5C)) := by
  rw [List.lookup_eq_none_iff]
  simp [registerMap]
  omega

/-- A 32-bit access off the registers reaches TB exactly at an aligned offset of its window (R61, R63). -/
theorem locate_word_of_not_reg {p : Params} {a : Nat} (h : registerMap.lookup a = none) :
    locate p a .word = if a % 4 = 0 ∧ tbBase ≤ a ∧ a < tbBase + 8 * p.n then some (.tb a) else none := by
  simp only [locate, h]

theorem locate_tbAddr {p : Params} (hp : p.wf = true) (i : Bit) {k : Nat} (hk : k < p.n) :
    locate p (BitVec.ofNat 18 (tbAddr p i k)).toNat .word = some (.tb (tbAddr p i k)) := by
  obtain ⟨-, hn, -⟩ := (Params.wf_iff p).1 hp
  obtain ⟨hlo, hhi⟩ := tbAddr_window p i hk
  have halign : tbAddr p i k % 4 = 0 := by unfold tbAddr tbBase; omega
  simp only [tbBase] at *
  have hfits : (BitVec.ofNat 18 (tbAddr p i k)).toNat = tbAddr p i k := Nat.mod_eq_of_lt (by omega)
  have hreg : registerMap.lookup (tbAddr p i k) = none := (registerMap_lookup_eq_none_iff _).2 (by omega)
  rw [hfits, locate_word_of_not_reg hreg, if_pos]
  simp only [tbBase]
  omega

theorem locate_sbAddr {p : Params} (hp : p.wf = true) (h c : Bit) {j : Nat} (hj : j < p.s) :
    locate p (BitVec.ofNat 18 (sbAddr p h c j)).toNat .half = some (.sb (sbAddr p h c j)) := by
  obtain ⟨-, -, -, hs, -⟩ := (Params.wf_iff p).1 hp
  obtain ⟨hlo, hhi⟩ := sbAddr_window p h c hj
  have halign : sbAddr p h c j % 2 = 0 := by unfold sbAddr sbBase; omega
  simp only [sbBase] at *
  have hfits : (BitVec.ofNat 18 (sbAddr p h c j)).toNat = sbAddr p h c j := Nat.mod_eq_of_lt (by omega)
  rw [hfits]
  exact if_pos ⟨halign, hlo, by simp only [sbBase]; omega⟩

/-! ## The host's accesses to the memories -/

/-- Settles O46: the offsets of R61 are those of the model's own locations. -/
theorem hostReadsReturnTheMemories : Obligations.HostReadsReturnTheMemories := by
  intro s hp
  refine ⟨fun i k hk => ?_, fun h c j hj => ?_⟩
  · show Host.Outcome.next (hostRead (BitVec.ofNat 18 (tbAddr s.params i k)) .word s) = _
    rw [hostRead, locate_tbAddr hp i hk]
    rfl
  · show Host.Outcome.next (hostRead (BitVec.ofNat 18 (sbAddr s.params h c j)) .half s) = _
    rw [hostRead, locate_sbAddr hp h c hj]
    have hzero : 0#16 ++ s.sb h c j = (s.sb h c j).setWidth 32 := (BitVec.setWidth_eq_append (by decide)).symm
    rw [← hzero]
    rfl

/-- Settles O47. -/
theorem hostWriteSbStoresOneSample : Obligations.HostWriteSbStoresOneSample := by
  intro s h c j v hp hj
  refine ⟨s.mem.writeHalf (sbAddr s.params h c j) v, ?_, State.readHalf_writeHalf s _ v,
    fun a ha => Memory.lookup_writeHalf_outside s.mem _ v a ha⟩
  show hostWrite (BitVec.ofNat 18 (sbAddr s.params h c j)) .half (0#16 ++ v) s = _
  rw [hostWrite, locate_sbAddr hp h c hj]
  show Host.Outcome.next (s.setMem (s.mem.writeHalf _ ((0#16 ++ v).setWidth 16))) = _
  rw [BitVec.setWidth_append_eq_right]
  rfl

/-! ## Refused accesses -/

/-- An access that reaches no location (R61, R63, R68). -/
theorem locate_eq_none {p : Params} {a : Nat} {w : Width}
    (h : w = .byte ∨ (w = .half ∧ ¬(a % 2 = 0 ∧ 0x20000 ≤ a ∧ a < 0x20000 + 8 * p.s)) ∨
      (w = .word ∧ ¬(a % 4 = 0 ∧ (a ≤ 0x38 ∨ (0x40 ≤ a ∧ a ≤ 0x5C) ∨ (0x10000 ≤ a ∧ a < 0x10000 + 8 * p.n))))) :
    locate p a w = none := by
  rcases h with rfl | ⟨rfl, h⟩ | ⟨rfl, h⟩
  · rfl
  · exact if_neg h
  · rw [locate_word_of_not_reg ((registerMap_lookup_eq_none_iff a).2 (by omega)), if_neg]
    simp only [tbBase]
    omega

/-- A register is reached only at an offset the map gives it. -/
theorem mem_registerMap_of_locate {p : Params} {a : Nat} {r : Reg} (h : locate p a .word = some (.reg r)) :
    (a, r) ∈ registerMap := by
  cases hl : registerMap.lookup a with
  | none => rw [locate_word_of_not_reg hl] at h; split at h <;> cases h
  | some r' =>
    simp only [locate, hl, Option.some.injEq, Loc.reg.injEq] at h
    obtain ⟨before, after, hmap, -⟩ := List.lookup_eq_some_iff.1 hl
    simp [hmap, h]

/-- Samples are reached by 16-bit accesses only (R63). -/
theorem locate_word_ne_sb {p : Params} {a b : Nat} : locate p a .word ≠ some (.sb b) := by
  cases hl : registerMap.lookup a with
  | none => rw [locate_word_of_not_reg hl]; split <;> simp
  | some r => simp [locate, hl]

/-- The host can write three registers, at offsets 0, 4 and `0x34`; it is refused at every other word (R68). -/
theorem hostWrite_word_refused {a : Addr} (h0 : a.toNat ≠ 0) (h4 : a.toNat ≠ 4) (h34 : a.toNat ≠ 0x34) (v : Word)
    (s : State) : hostWrite a .word v s = .next (s.refuseAccess a) := by
  unfold hostWrite
  split
  · next hl => exact absurd (locate_eq_cmd hl).1 h0
  · next hl => exact absurd (by simpa [registerMap] using mem_registerMap_of_locate hl) h4
  · next hl => exact absurd (by simpa [registerMap] using mem_registerMap_of_locate hl) h34
  · next hl => exact absurd hl locate_word_ne_sb
  · rfl

/-- Settles O48. -/
theorem refusedAccessesHaveNoEffect : Obligations.RefusedAccessesHaveNoEffect := by
  intro s a w
  refine ⟨fun h => ?_, fun _ h v => hostWrite_word_refused (by omega) (by omega) (by omega) v s⟩
  have hl := locate_eq_none h
  refine ⟨?_, fun v => ?_⟩
  · show Host.Outcome.next (hostRead a w s) = _
    rw [hostRead, hl]
    rfl
  · show hostWrite a w v s = _
    rw [hostWrite, hl]
    rfl

end Sys2Proof.Machine

namespace Sys2Proof

open Machine (toNat_append_eq_add)

/-! ## A decoded word is the word of its command -/

/-- Where a row's mask is all ones, a word that selects the row has the row's bits (R94). -/
theorem OpRow.field_of_selects {r : OpRow} {w : Word} (h : r.selects w = true) {start len : Nat}
    (hmask : r.mask.extractLsb' start len = BitVec.allOnes len) :
    w.extractLsb' start len = r.matchBits.extractLsb' start len := by
  have hbits : w &&& r.mask = r.matchBits := by simpa [OpRow.selects] using h
  rw [← hbits, BitVec.extractLsb'_and, hmask, BitVec.and_allOnes]

/-- A row of a command with no operand is selected by one word (R94). -/
theorem OpRow.eq_of_selects {r : OpRow} {w : Word} (h : r.selects w = true) (hmask : r.mask = 0xFFFFFFFF#32) :
    r.matchBits = w := by
  have hbits : w &&& r.mask = r.matchBits := by simpa [OpRow.selects] using h
  rw [← hbits, hmask]
  exact BitVec.and_allOnes

theorem encode_init_pinField {w : Word} (h : w.extractLsb' 8 24 = 0x010000#24) : encode (.init (pinField w)) = w := by
  have hop := congrArg BitVec.toNat h
  apply BitVec.eq_of_toNat_eq
  simp only [encode, pinField, toNat_append_eq_add, BitVec.extractLsb'_toNat, BitVec.toNat_ofNat,
    Nat.shiftRight_eq_div_pow] at *
  omega

theorem encode_refill_idxField {w : Word} (h : w.extractLsb' 1 31 = 0x03000000#31) :
    encode (.refill (idxField w)) = w := by
  have hop := congrArg BitVec.toNat h
  apply BitVec.eq_of_toNat_eq
  simp only [encode, idxField, toNat_append_eq_add, BitVec.extractLsb'_toNat, BitVec.toNat_ofNat,
    Nat.shiftRight_eq_div_pow] at *
  omega

theorem encode_setVol_volField {w : Word} (h : w.extractLsb' 16 16 = 0x0900#16) :
    encode (.setVol (volField w)) = w := by
  have hop := congrArg BitVec.toNat h
  apply BitVec.eq_of_toNat_eq
  simp only [encode, volField, toNat_append_eq_add, BitVec.extractLsb'_toNat, BitVec.toNat_ofNat,
    Nat.shiftRight_eq_div_pow] at *
  omega

theorem encode_setsrc_fields {w : Word} (h : w.extractLsb' 9 23 = 0x018000#23) (hgap : w.extractLsb' 3 5 = 0#5) :
    encode (.setsrc (rsField w) (monoField w)) = w := by
  have hop := congrArg BitVec.toNat h
  have hzero := congrArg BitVec.toNat hgap
  have hmono : (BitVec.ofBool (monoField w)).toNat = w.toNat >>> 8 % 2 := by
    simp only [monoField, BitVec.toNat_ofBool, BitVec.getLsbD, Nat.toNat_testBit, Nat.shiftRight_eq_div_pow]
  apply BitVec.eq_of_toNat_eq
  simp only [encode, rsField, hmono, toNat_append_eq_add, BitVec.extractLsb'_toNat, BitVec.toNat_ofNat,
    Nat.shiftRight_eq_div_pow] at *
  omega

/-- A word that selects a row of the opcode map is the word of the command the row assembles (R94, R95). -/
theorem OpRow.encode_operands {r : OpRow} {w : Word} (hr : r ∈ opcodeMap) (h : r.selects w = true) :
    encode (r.operands w) = w := by
  simp only [opcodeMap, List.mem_cons, List.not_mem_nil, or_false] at hr
  rcases hr with rfl | rfl | rfl | rfl | rfl | rfl | rfl | rfl | rfl | rfl | rfl
  · exact OpRow.eq_of_selects h rfl
  · exact encode_init_pinField (OpRow.field_of_selects h (by decide))
  · exact OpRow.eq_of_selects h rfl
  · exact encode_setsrc_fields (OpRow.field_of_selects h (by decide)) (OpRow.field_of_selects h (by decide))
  · exact OpRow.eq_of_selects h rfl
  · exact OpRow.eq_of_selects h rfl
  · exact encode_refill_idxField (OpRow.field_of_selects h (by decide))
  · exact OpRow.eq_of_selects h rfl
  · exact OpRow.eq_of_selects h rfl
  · exact encode_setVol_volField (OpRow.field_of_selects h (by decide))
  · exact OpRow.eq_of_selects h rfl

theorem encode_of_decodeWord {w : Word} {i : Instr} (h : decodeWord w = .ok i) : encode i = w := by
  unfold decodeWord at h
  split at h
  · next r hr =>
    have hsel := List.find?_some hr
    cases h
    exact OpRow.encode_operands (List.mem_of_find?_eq_some hr) hsel
  · split at h <;> cases h

end Sys2Proof

namespace Sys2Proof.Machine

/-! ## What the host's turn can do -/

/-- What a host access that performs no command can change (R65): `ARG`, the latch, the queue and its overflow
flag, bytes from the SB window on, and the model's own lists. -/
structure State.HostAccess (s t : State) : Prop where
  frame : t = { s with
    arg := t.arg, err := t.err, errInfo := t.errInfo, evq := t.evq, evqOvf := t.evqOvf, mem := t.mem
    returned := t.returned, hostOps := t.hostOps }
  memBelow : ∀ a < sbBase, t.mem.lookup a = s.mem.lookup a
  queue : t.evq = s.evq.tail ∧ t.evqOvf = s.evqOvf ∨ ∃ u ∈ externalTokens, s.MayPush t u

theorem State.HostAccess.of_queue_kept {s t : State}
    (frame : t = { s with
      arg := t.arg, err := t.err, errInfo := t.errInfo, mem := t.mem, returned := t.returned, hostOps := t.hostOps })
    (memBelow : ∀ a < sbBase, t.mem.lookup a = s.mem.lookup a) : s.HostAccess t where
  frame := by rw [frame]
  memBelow := memBelow
  queue := .inr ⟨_, List.mem_cons_self, by rw [frame]; exact .inl ⟨rfl, .inl rfl⟩⟩

theorem State.HostAccess.refuse (s : State) (code : ErrCode) (info : Word) : s.HostAccess (s.refuse code info) := by
  rw [State.refuse_eq]
  exact .of_queue_kept rfl fun _ _ => rfl

/-- Which operations the host has left is no part of what its access may change. -/
theorem State.HostAccess.of_setHostOps {s t : State} {ops : List HostOp} (h : (s.setHostOps ops).HostAccess t) :
    s.HostAccess t :=
  ⟨h.frame, h.memBelow, h.queue⟩

theorem hostRead_access (a : Addr) (w : Width) (s : State) : s.HostAccess (hostRead a w s) := by
  rcases hostRead_cases a w s with ⟨v, e⟩ | e | e <;> rw [e]
  · exact .of_queue_kept rfl fun _ _ => rfl
  · exact ⟨rfl, fun _ _ => rfl, .inl ⟨rfl, rfl⟩⟩
  · rw [State.refuseAccess, State.refuse_eq]
    exact .of_queue_kept rfl fun _ _ => rfl

theorem hostPushExt_access (v : Word) (s : State) : s.HostAccess (hostPushExt v s) := by
  unfold hostPushExt
  split
  · next hv =>
    have hp := s.evqPush_mayPush v
    rw [State.evqPush_eq] at *
    exact ⟨rfl, fun _ _ => rfl, .inr ⟨v, hv, hp⟩⟩
  · exact .refuse s _ _

/-- An operation of the host other than `Reset` is a write to `CMD` or an access that performs no command. -/
theorem hostStep_cases {op : HostOp} {s t : State} (hop : op ≠ .reset) (h : hostStep op s = .next t) :
    (∃ w, op = HostOp.issue w ∧ hostIssue w s = .next t) ∨ s.HostAccess t := by
  cases op with
  | read a w => cases h; exact .inr (hostRead_access a w s)
  | write a w v =>
    rcases hostWrite_cases h with ⟨rfl, rfl, hi⟩ | rfl | rfl | ⟨b, -, hlo, -, rfl⟩ | rfl
    · exact .inl ⟨v, rfl, hi⟩
    · exact .inr (.of_queue_kept rfl fun _ _ => rfl)
    · exact .inr (hostPushExt_access v s)
    · exact .inr (.of_queue_kept rfl fun a ha => Memory.lookup_writeHalf_outside _ _ _ a (by omega))
    · exact .inr (.refuse s _ _)
  | reset => contradiction

/-- The host's turn, but for `Reset`, is an access that performs no command, or an accepting block performs the
command written to `CMD` or takes the fatal fault of an illegal word (R91, R92, R96). -/
theorem hostTurn_outcomes {s t : State} (hr : s.hostOps.head? ≠ some .reset) (h : hostTurn s = .next t) :
    s.HostAccess t ∨
    (s.accepting ∧ ∃ i ops, s.hostOps.head? = some (HostOp.issue (encode i)) ∧ exec i (s.setHostOps ops) = .next t) ∨
    (s.accepting ∧ ∃ w ops, s.hostOps.head? = some (HostOp.issue w) ∧ t = (s.setHostOps ops).fatal .illegalCmd w) := by
  rcases hostTurn_cases h with ⟨-, rfl⟩ | ⟨op, ops, hops, ⟨-, rfl⟩ | ⟨hheld, hs⟩⟩
  · exact .inl (.of_queue_kept rfl fun _ _ => rfl)
  · exact .inl (.of_queue_kept rfl fun _ _ => rfl)
  rcases hostStep_cases (by simpa [hops] using hr) hs with ⟨w, rfl, hi⟩ | haccess
  · have hidle (hrun : s.halt = false) : s.busy = false := by
      simpa [hrun] using State.halt_or_idle_of_not_held hheld
    rcases hostIssue_cases hi with ⟨-, rfl⟩ | ⟨hrun, i, hdec, he⟩ | ⟨hrun, rfl⟩
    · exact .inl (.of_queue_kept rfl fun _ _ => rfl)
    · refine .inr (.inl ⟨⟨hrun, hidle hrun⟩, i, ops, ?_, he⟩)
      rw [encode_of_decodeWord hdec, hops, List.head?_cons]
    · exact .inr (.inr ⟨⟨hrun, hidle hrun⟩, w, ops, by rw [hops, List.head?_cons], rfl⟩)
  · exact .inl haccess.of_setHostOps

/-! ## What each agent writes -/

namespace State.MayPush

variable {s t : State} {u : Word}

theorem evq_eq (h : s.MayPush t u) : t.evq = s.evq ∨ t.evq = s.evq ++ [u] := by
  rcases h with ⟨-, hq⟩ | ⟨-, -, hq⟩
  · exact hq
  · exact .inl hq

/-- Only a full queue sets the overflow flag, and no push clears it. -/
theorem overflow (h : s.MayPush t u) (hlen : s.evq.length ≤ s.params.evqDepth) {P : Prop} :
    (s.evqOvf = false → t.evqOvf = true → s.evq.length = s.params.evqDepth) ∧
    (s.evqOvf = true → t.evqOvf = false → P) := by
  rcases h with ⟨ho, -⟩ | ⟨ho, hfull, -⟩
  · simp +contextual [ho]
  · simp [ho, Nat.le_antisymm hlen hfull]

end State.MayPush

theorem tokenTransferDone_eq (i : Bit) :
    tokenTransferDone i = if i = 0#1 then 0x00000001#32 else 0x00000101#32 := by
  revert i
  decide

/-- Settles O58: the turn of `CP` or `DS` never writes an operand of the mixer, and the host's writes none of them
without a command, which a busy block holds. -/
theorem mixerOperandsAreConstantDuringARefill : Obligations.MixerOperandsAreConstantDuringARefill := by
  intro s t hinv hbusy hreset ht
  rcases step_cases s with ⟨-, e⟩ | ⟨g, rest, hturns, e⟩ <;> rw [e] at ht
  · cases ht
    simp
  cases g with
  | host =>
    have hop : s.hostOps.head? ≠ some .reset := by simpa [State.resetNext, hturns] using hreset
    rcases hostTurn_outcomes (s := s.beginTurn rest) hop ht with ⟨hframe, -, -⟩ | ⟨⟨-, hidle⟩, -⟩ | ⟨⟨-, hidle⟩, -⟩
    · rw [hframe]
      simp
    · simp [hbusy] at hidle
    · simp [hbusy] at hidle
  | cp =>
    rcases cpTurn_cases (s.beginTurn rest) with ⟨-, e⟩ | ⟨-, e⟩ <;> rw [agentTurn, e] at ht <;> cases ht
    · rw [refillWord_eq]
      simp
    · simp
  | ds =>
    rw [dsTurn_eq ht]
    simp

theorem State.HostAccess.evq_cases {s t : State} (h : s.HostAccess t) :
    t.evq = s.evq ∨ t.evq = s.evq.tail ∨ ∃ u ∈ externalTokens, t.evq = s.evq ++ [u] := by
  rcases h.queue with ⟨hq, -⟩ | ⟨u, hu, hpush⟩
  · exact .inr (.inl hq)
  · exact hpush.evq_eq.imp_right fun hq => .inr ⟨u, hu, hq⟩

theorem State.HostAccess.overflow {s t : State} (h : s.HostAccess t) (hlen : s.evq.length ≤ s.params.evqDepth)
    {P : Prop} :
    (s.evqOvf = false → t.evqOvf = true → s.evq.length = s.params.evqDepth) ∧
    (s.evqOvf = true → t.evqOvf = false → P) := by
  rcases h.queue with ⟨-, ho⟩ | ⟨u, -, hpush⟩
  · simp +contextual [ho]
  · exact hpush.overflow hlen

/-- A command leaves the overflow flag alone, or is `CLR_ERR` and clears it (R181). -/
theorem exec_evqOvf {i : Instr} {s t : State} (h : exec i s = .next t) :
    t.evqOvf = s.evqOvf ∨ (i = .clrErr ∧ t.evqOvf = false) := by
  obtain ⟨-, -, -, -, -, -, -, hovf, -⟩ := onlyTheNamedCommandsWriteARegister i s t h
  by_cases ho : t.evqOvf = s.evqOvf
  · exact .inl ho
  · obtain rfl := hovf ho
    cases h
    exact .inr ⟨rfl, rfl⟩

/-- The word a good refill stores lies below the SB window (R61). -/
theorem State.Inv.refillWord_lookup_sb {s : State} (h : s.Inv) {a : Nat} (ha : sbBase ≤ a) (w : Word) :
    (s.mem.writeWord (tbAddr s.params s.rfIdx s.rfK.toNat) w).lookup a = s.mem.lookup a := by
  obtain ⟨-, hn, -⟩ := (Params.wf_iff _).1 h.paramsWf
  obtain ⟨-, hhi⟩ := tbAddr_window s.params s.rfIdx h.rfK
  apply Memory.lookup_writeWord_outside
  simp only [sbBase, tbBase] at *
  omega

/-- Settles O56, agent by agent: what the agent's frame leaves open is the queue, its overflow flag, and the side
of memory it writes. -/
theorem eachAgentWritesOnlyItsOwn : Obligations.EachAgentWritesOnlyItsOwn := by
  intro s t hinv hreset ht
  have hlen := hinv.evqLength
  rcases step_cases s with ⟨-, e⟩ | ⟨g, rest, hturns, e⟩ <;> rw [e] at ht
  · cases ht
    simpa using (State.MayPush.refl s tokenStagingReq).overflow hlen
  cases g with
  | host =>
    have hop : s.hostOps.head? ≠ some .reset := by simpa [State.resetNext, hturns] using hreset
    rcases hostTurn_outcomes (s := s.beginTurn rest) hop ht with
      haccess | ⟨-, i, ops, hi, he⟩ | ⟨-, w, ops, hw, rfl⟩
    · have hevq := haccess.evq_cases
      have hbelow := haccess.memBelow
      have hovf := haccess.overflow (P := s.issuesNext .clrErr) hlen
      rw [haccess.frame]
      simpa [hturns] using ⟨hbelow, hevq, hovf⟩
    · have hissues : s.issuesNext i := ⟨by rw [hturns, List.head?_cons], hi⟩
      have hhost := hissues.1
      have hcommand : s.commandNext := ⟨hhost, _, hi⟩
      obtain ⟨-, hmem, hcc, hout, hevq, -, -, hparams, -⟩ := commandsLeaveMemoryOutputAndQueue _ _ _ he
      obtain ⟨hinit, -, -, hstart, -⟩ := onlyTheNamedCommandsWriteARegister _ _ _ he
      have hact : t.act ≠ s.act ∨ t.pos ≠ s.pos → s.issuesNext .start := fun h => hstart h ▸ hissues
      have hdesc : t.desc0 ≠ s.desc0 ∨ t.desc1 ≠ s.desc1 → ∃ pin, s.issuesNext (.init pin) := fun h => by
        obtain ⟨pin, rfl⟩ := hinit (.inr (.inr h))
        exact ⟨pin, hissues⟩
      have hovf : (s.evqOvf = false → t.evqOvf = true → s.evq.length = s.params.evqDepth) ∧
          (s.evqOvf = true → t.evqOvf = false → s.issuesNext .clrErr) := by
        rcases exec_evqOvf he with ho | ⟨rfl, ho⟩
        · simp +contextual [ho]
        · exact ⟨fun _ hset => by rw [ho] at hset; contradiction, fun _ _ => hissues⟩
      exact ⟨by simp [hcc, hout], by simp [hmem], by simp [hmem], fun _ => hhost, fun h => .inr (hact h), hdesc,
        fun _ => hcommand, fun _ => .inl hcommand, fun _ => hhost, by simp [hturns], by simp [hturns],
        fun _ => .inl hevq, hovf.1, hovf.2, hparams⟩
    · have hcommand : s.commandNext := ⟨by rw [hturns, List.head?_cons], w, hw⟩
      have hovf := (State.MayPush.refl s tokenStagingReq).overflow (P := s.issuesNext .clrErr) hlen
      simpa [hturns] using ⟨fun _ => hcommand, hovf⟩
  | cp =>
    rcases cpTurn_cases (s.beginTurn rest) with ⟨-, e⟩ | ⟨-, e⟩ <;> rw [agentTurn, e] at ht <;> cases ht
    · have hpush := refillWord_mayPush (s.beginTurn rest)
      have hovf := hpush.overflow (P := s.issuesNext .clrErr) hlen
      rw [refillWord_eq]
      simpa [hturns] using ⟨fun a ha => (hinv.beginTurn rest).refillWord_lookup_sb (a := a) ha _, hpush.evq_eq, hovf⟩
    · simpa using (State.MayPush.refl s tokenStagingReq).overflow hlen
  | ds =>
    have hpush := dsTurn_mayPush ht
    have hovf := hpush.overflow (P := s.issuesNext .clrErr) hlen
    have hevq := hpush.evq_eq
    rw [tokenTransferDone_eq] at hevq
    rw [dsTurn_eq ht]
    simpa [hturns] using ⟨hevq, hovf⟩

end Sys2Proof.Machine

namespace Sys2Proof

/-! ## The rows of the opcode map (30_encoding R93, R94) -/

/-- The reserved fields of the format an assigned op has, each as its lowest bit and its width (R93). -/
def reservedFields (op : Byte) : List (Nat × Nat) :=
  if op = 0x01#8 then [(8, 16)]
  else if op = 0x03#8 then [(3, 5), (9, 15)]
  else if op = 0x06#8 then [(1, 23)]
  else if op = 0x09#8 then [(16, 8)]
  else [(0, 24)]

/-- The bits a row's mask keeps: those of the op byte and of the reserved fields (R93, R94). -/
def OpRow.fixedFields (r : OpRow) : List (Nat × Nat) := (24, 8) :: reservedFields (opField r.matchBits)

theorem opcodeMap_mask_fixedFields :
    ∀ r ∈ opcodeMap, ∀ f ∈ r.fixedFields, r.mask.extractLsb' f.1 f.2 = BitVec.allOnes f.2 := by decide

theorem opcodeMap_mask_only_fixedFields :
    ∀ r ∈ opcodeMap, ∀ k < 32, r.mask.getLsbD k = true → ∃ f ∈ r.fixedFields, f.1 ≤ k ∧ k < f.1 + f.2 := by decide

theorem opcodeMap_matchBits_and_mask : ∀ r ∈ opcodeMap, r.matchBits &&& r.mask = r.matchBits := by decide

theorem opcodeMap_matchBits_reservedFields :
    ∀ r ∈ opcodeMap, ∀ f ∈ reservedFields (opField r.matchBits), r.matchBits.extractLsb' f.1 f.2 = 0#f.2 := by decide

theorem opcodeMap_ops_nodup : (opcodeMap.map fun r => opField r.matchBits).Nodup := by decide

/-! ## Every word selects at most one row (R94) -/

/-- The op byte of a word that selects a row is the row's (R93, R94). -/
theorem OpRow.opField_of_selects {r : OpRow} {w : Word} (hr : r ∈ opcodeMap) (h : r.selects w = true) :
    opField w = opField r.matchBits :=
  OpRow.field_of_selects h (opcodeMap_mask_fixedFields r hr (24, 8) List.mem_cons_self)

/-- The op byte names the row. -/
theorem OpRow.eq_of_opField_eq {r r' : OpRow} (hr : r ∈ opcodeMap) (hr' : r' ∈ opcodeMap)
    (h : opField r.matchBits = opField r'.matchBits) : r = r' :=
  List.inj_on_of_nodup_map opcodeMap_ops_nodup hr hr' h

theorem OpRow.eq_of_selects_both {r r' : OpRow} {w : Word} (hr : r ∈ opcodeMap) (hr' : r' ∈ opcodeMap)
    (h : r.selects w = true) (h' : r'.selects w = true) : r = r' :=
  OpRow.eq_of_opField_eq hr hr' ((OpRow.opField_of_selects hr h).symm.trans (OpRow.opField_of_selects hr' h'))

/-- Settles O4: the op byte of the word names the row it selects. -/
theorem opcodeRowsAreDisjoint : Obligations.OpcodeRowsAreDisjoint := by
  intro w r r' hr hr' h h'
  rw [OpRow.eq_of_selects_both hr hr' h h']
  exact ⟨rfl, rfl⟩

/-! ## Decoding and encoding invert each other (R93 to R96) -/

/-- A word decodes by the row it selects. -/
theorem decodeWord_of_selects {r : OpRow} {w : Word} (hr : r ∈ opcodeMap) (h : r.selects w = true) :
    decodeWord w = .ok (r.operands w) := by
  unfold decodeWord
  split
  · next r' hfind =>
    rw [OpRow.eq_of_selects_both hr (List.mem_of_find?_eq_some hfind) h (by simpa using List.find?_some hfind)]
  · next hfind => exact absurd h (List.find?_eq_none.1 hfind r hr)

/-- A word is illegal exactly when it selects no row. -/
theorem decodeWord_eq_error_iff {w : Word} :
    (∃ e, decodeWord w = .error e) ↔ ∀ r ∈ opcodeMap, ¬ r.selects w = true := by
  constructor
  · rintro ⟨e, he⟩ r hr hsel
    rw [decodeWord_of_selects hr hsel] at he
    cases he
  · intro hnone
    rw [decodeWord, List.find?_eq_none.2 hnone]
    by_cases hop : (opField w).toNat < opcodeMap.length
    · exact ⟨_, if_pos hop⟩
    · exact ⟨_, if_neg hop⟩

theorem pinField_encode_init (pin : Byte) : pinField (encode (.init pin)) = pin := by
  revert pin; decide

theorem rsField_encode_setsrc (rs : BitVec 3) (mono : Bool) : rsField (encode (.setsrc rs mono)) = rs := by
  revert rs mono; decide

theorem monoField_encode_setsrc (rs : BitVec 3) (mono : Bool) : monoField (encode (.setsrc rs mono)) = mono := by
  revert rs mono; decide

theorem idxField_encode_refill (idx : Bit) : idxField (encode (.refill idx)) = idx := by
  revert idx; decide

theorem volField_encode_setVol (vol : Half) : volField (encode (.setVol vol)) = vol := by
  have hword : encode (.setVol vol) = 0x0900#16 ++ vol := BitVec.append_assoc.symm
  rw [hword, volField]
  exact BitVec.extractLsb'_append_eq_right

/-- Every command's encoding lies in its row of the table (R94). -/
theorem encode_in_row (i : Instr) : Laws.TableRow.Statement i := by
  cases i with
  | nop => exact Laws.TableRow.nop
  | init pin => exact Laws.TableRow.init pin
  | reconfigure => exact Laws.TableRow.reconfigure
  | setsrc rs mono => exact Laws.TableRow.setsrc rs mono
  | start => exact Laws.TableRow.start
  | stop => exact Laws.TableRow.stop
  | refill idx => exact Laws.TableRow.refill idx
  | volUp => exact Laws.TableRow.volUp
  | volDown => exact Laws.TableRow.volDown
  | setVol vol => exact Laws.TableRow.setVol vol
  | clrErr => exact Laws.TableRow.clrErr

/-- The opcode map holds a command's row, whose operand assembly gives the command back from its encoding
(R94, R95). -/
theorem exists_row_of_instr (i : Instr) :
    ∃ r ∈ opcodeMap, (r.matchBits, r.mask) = Laws.TableRow.row i ∧ r.operands (encode i) = i := by
  cases i with
  | nop => exact ⟨opcodeMap[0], List.getElem_mem _, rfl, rfl⟩
  | init pin => exact ⟨opcodeMap[1], List.getElem_mem _, rfl, congrArg Instr.init (pinField_encode_init pin)⟩
  | reconfigure => exact ⟨opcodeMap[2], List.getElem_mem _, rfl, rfl⟩
  | setsrc rs mono =>
    exact ⟨opcodeMap[3], List.getElem_mem _, rfl,
      congrArg₂ Instr.setsrc (rsField_encode_setsrc rs mono) (monoField_encode_setsrc rs mono)⟩
  | start => exact ⟨opcodeMap[4], List.getElem_mem _, rfl, rfl⟩
  | stop => exact ⟨opcodeMap[5], List.getElem_mem _, rfl, rfl⟩
  | refill idx => exact ⟨opcodeMap[6], List.getElem_mem _, rfl, congrArg Instr.refill (idxField_encode_refill idx)⟩
  | volUp => exact ⟨opcodeMap[7], List.getElem_mem _, rfl, rfl⟩
  | volDown => exact ⟨opcodeMap[8], List.getElem_mem _, rfl, rfl⟩
  | setVol vol => exact ⟨opcodeMap[9], List.getElem_mem _, rfl, congrArg Instr.setVol (volField_encode_setVol vol)⟩
  | clrErr => exact ⟨opcodeMap[10], List.getElem_mem _, rfl, rfl⟩

/-- Settles O2: a command's encoding selects the command's row, and only that one. -/
theorem decodeEncodeRoundTrip : Obligations.DecodeEncodeRoundTrip := by
  intro i
  obtain ⟨r, hr, hrow, hoperands⟩ := exists_row_of_instr i
  have hbits := encode_in_row i
  rw [Laws.TableRow.Statement, ← hrow] at hbits
  rw [decodeWord_of_selects hr (beq_iff_eq.2 hbits), hoperands]

/-- Settles O3. -/
theorem legalWordsAreEncodings : Obligations.LegalWordsAreEncodings := fun _ _ => encode_of_decodeWord

/-- Settles O1. -/
theorem decodeOfSpecWords : Obligations.DecodeOfSpecWords := by
  unfold Obligations.DecodeOfSpecWords
  decide

/-! ## The illegal words (R96) -/

/-- Words that agree on a field agree on each of its bits. -/
theorem getLsbD_eq_of_extractLsb'_eq {v w : Word} {start len k : Nat}
    (h : v.extractLsb' start len = w.extractLsb' start len) (hlo : start ≤ k) (hhi : k < start + len) :
    v.getLsbD k = w.getLsbD k := by
  have hbit := congrArg (·.getLsbD (k - start)) h
  simpa [show k - start < len by omega, show start + (k - start) = k by omega] using hbit

/-- A word selects a row exactly when it has the row's bits in every field the mask keeps. -/
theorem OpRow.selects_iff_fixedFields {r : OpRow} {w : Word} (hr : r ∈ opcodeMap) :
    r.selects w = true ↔
      ∀ f ∈ r.fixedFields, w.extractLsb' f.1 f.2 = r.matchBits.extractLsb' f.1 f.2 := by
  constructor
  · exact fun h f hf => OpRow.field_of_selects h (opcodeMap_mask_fixedFields r hr f hf)
  · intro h
    have hbits : w &&& r.mask = r.matchBits := by
      rw [← opcodeMap_matchBits_and_mask r hr]
      refine BitVec.eq_of_getLsbD_eq fun k hk => ?_
      rw [BitVec.getLsbD_and, BitVec.getLsbD_and]
      cases hmask : r.mask.getLsbD k with
      | false => rw [Bool.and_false, Bool.and_false]
      | true =>
        obtain ⟨f, hf, hlo, hhi⟩ := opcodeMap_mask_only_fixedFields r hr k hk hmask
        rw [getLsbD_eq_of_extractLsb'_eq (h f hf) hlo hhi]
    exact beq_iff_eq.2 hbits

/-- A word selects a row exactly when it has the row's op and its reserved bits are 0 (R93, R94). -/
theorem OpRow.selects_iff {r : OpRow} {w : Word} (hr : r ∈ opcodeMap) :
    r.selects w = true ↔
      opField w = opField r.matchBits ∧ ∀ f ∈ reservedFields (opField w), w.extractLsb' f.1 f.2 = 0#f.2 := by
  rw [OpRow.selects_iff_fixedFields hr, OpRow.fixedFields, List.forall_mem_cons]
  refine and_congr_right fun hop => ?_
  have hop : opField w = opField r.matchBits := hop
  rw [hop]
  exact forall₂_congr fun f hf => by rw [opcodeMap_matchBits_reservedFields r hr f hf]

/-- The assigned ops are 0x00 to 0x0A (R94). -/
theorem exists_row_of_op {op : Byte} : (∃ r ∈ opcodeMap, op = opField r.matchBits) ↔ op.toNat < 0x0B := by
  revert op
  decide

/-- A word is illegal exactly when its op is unassigned or a reserved bit of its op's format is 1 (R96). -/
theorem decodeWord_eq_error_iff_fields {w : Word} :
    (∃ e, decodeWord w = .error e) ↔
      0x0B ≤ (opField w).toNat ∨ ∃ f ∈ reservedFields (opField w), w.extractLsb' f.1 f.2 ≠ 0#f.2 := by
  rw [decodeWord_eq_error_iff]
  constructor
  · intro hnone
    by_contra! h
    obtain ⟨hop, hzero⟩ := h
    obtain ⟨r, hr, hop⟩ := exists_row_of_op.2 hop
    exact hnone r hr ((OpRow.selects_iff hr).2 ⟨hop, hzero⟩)
  · intro h r hr hsel
    obtain ⟨hop, hzero⟩ := (OpRow.selects_iff hr).1 hsel
    have hassigned := exists_row_of_op.1 ⟨r, hr, hop⟩
    rcases h with hop | ⟨f, hf, hne⟩
    · omega
    · exact hne (hzero f hf)

/-- The assigned ops by their formats, with the reserved fields written out (R93). -/
theorem exists_reservedField_iff {op : Byte} (hop : op.toNat < 0x0B) (P : Nat × Nat → Prop) :
    (∃ f ∈ reservedFields op, P f) ↔
      (op ∈ [0x00#8, 0x02#8, 0x04#8, 0x05#8, 0x07#8, 0x08#8, 0x0A#8] ∧ P (0, 24)) ∨ (op = 0x01#8 ∧ P (8, 16)) ∨
      (op = 0x03#8 ∧ (P (3, 5) ∨ P (9, 15))) ∨ (op = 0x06#8 ∧ P (1, 23)) ∨ (op = 0x09#8 ∧ P (16, 8)) := by
  by_cases hinit : op = 0x01#8
  · simp [reservedFields, hinit]
  by_cases hsetsrc : op = 0x03#8
  · simp [reservedFields, hsetsrc]
  by_cases hrefill : op = 0x06#8
  · simp [reservedFields, hrefill]
  by_cases hsetVol : op = 0x09#8
  · simp [reservedFields, hsetVol]
  have hc0 : op ∈ [0x00#8, 0x02#8, 0x04#8, 0x05#8, 0x07#8, 0x08#8, 0x0A#8] := by
    revert op
    decide
  simp only [reservedFields, hinit, hsetsrc, hrefill, hsetVol, hc0, if_false, List.mem_singleton, exists_eq_left,
    true_and, false_and, or_false]

/-- Settles O5. -/
theorem illegalWordsAreTheReservedOnes : Obligations.IllegalWordsAreTheReservedOnes := by
  intro w
  rw [decodeWord_eq_error_iff_fields]
  exact or_congr_right' fun hop => exists_reservedField_iff (Nat.not_le.1 hop) fun f => w.extractLsb' f.1 f.2 ≠ 0#f.2

end Sys2Proof

namespace Sys2Proof.Machine

/-! ## A word written to `CMD` (R91, R92, R96) -/

/-- The host's turn at a `CMD` write is held while `BUSY = 1` and `HALT = 0`, else it is `HostIssue`. -/
theorem step_cmd_write {s : State} {rest : List Agent} {ops : List HostOp} {w : Word}
    (hturns : s.turns = .host :: rest) (hops : s.hostOps = HostOp.issue w :: ops) :
    step s = if s.busy && !s.halt then .next (s.beginTurn rest)
      else hostIssue w ((s.beginTurn rest).setHostOps ops) := by
  simp only [step, scheduledStep, hturns, agentTurn, hostTurn, State.beginTurn_hostOps, hops]
  rfl

theorem hostIssue_of_halt {s : State} (h : s.halt = true) (w : Word) : hostIssue w s = .next s := if_pos h

theorem hostIssue_of_legal {s : State} {w : Word} {i : Instr} (h : s.halt = false) (hw : decodeWord w = .ok i) :
    hostIssue w s = exec i s := by
  simp [hostIssue, h, hw]

theorem hostIssue_of_illegal {s : State} {w : Word} {e : Illegal} (h : s.halt = false)
    (hw : decodeWord w = .error e) : hostIssue w s = .next (s.fatal .illegalCmd w) := by
  simp [hostIssue, h, hw]

/-- Settles O6. -/
theorem stepRunsTheDecodedCommand : Obligations.StepRunsTheDecodedCommand := by
  intro s rest ops w i hturns hops ⟨hhalt, hbusy⟩ hw
  rw [step_cmd_write hturns hops, if_neg (by simp [hbusy])]
  exact hostIssue_of_legal hhalt hw

/-- Settles O7. -/
theorem illegalWordTakesTheFatalFault : Obligations.IllegalWordTakesTheFatalFault := by
  intro s rest ops w e hturns hops ⟨hhalt, hbusy⟩ hw
  rw [step_cmd_write hturns hops, if_neg (by simp [hbusy]), hostIssue_of_illegal (by simpa using hhalt) hw]
  rfl

/-- Settles O8: a halted block holds no write and performs none. -/
theorem haltedBlockIgnoresCommands : Obligations.HaltedBlockIgnoresCommands := by
  intro s rest ops w hturns hops hhalt
  rw [step_cmd_write hturns hops, if_neg (by simp [hhalt]), hostIssue_of_halt (by simpa using hhalt)]
  rfl

/-- Settles O9. -/
theorem busyBlockHoldsCommands : Obligations.BusyBlockHoldsCommands := by
  intro s rest ops w hturns hops hhalt hbusy
  rw [step_cmd_write hturns hops, if_pos (by simp [hhalt, hbusy])]
  rfl

/-! ## A `Tick` the spec does not define (44_dma_scheduler R202, U6) -/

theorem tick_of_not_canonical {s : State} (h : s.descCanonical = false) :
    tick s = .fault .descriptorNotCanonical := by
  simp [tick, h]

/-- Settles O38. -/
theorem tickStopsOnOtherDescriptors : Obligations.TickStopsOnOtherDescriptors := by
  intro s hrun hdesc
  have hcanon : s.descCanonical = false := by
    rcases hdesc with h | h <;> simp [State.descCanonical, h]
  rw [dsTurn, if_pos hrun, tick_of_not_canonical hcanon]

end Sys2Proof.Machine

/-! SUPPORT. The ring family (40_transfer_ring): its commands, the whole next state of `RefillWord` and of `Tick`,
and what a refill leaves when only the turns of `CP` and `DS` lie in it. -/

namespace Sys2Proof.Machine

/-! ## The commands of the ring and the turns that pass (R122 to R124, R203) -/

theorem encode_setsrc_eq_ofNat (rs : BitVec 3) (mono : Bool) :
    encode (.setsrc rs mono) = BitVec.ofNat 32 (0x03000000 + 256 * mono.toNat + rs.toNat) := by
  revert rs mono
  decide

theorem encode_refill_eq_ofNat (idx : Bit) : encode (.refill idx) = BitVec.ofNat 32 (0x06000000 + idx.toNat) := by
  revert idx
  decide

theorem exec_of_stateCause {i : Instr} {s : State} (h : stateCause i s = true) :
    exec i s = .next (s.refuse .state (encode i)) := by
  rw [exec_eq, if_pos h]

theorem exec_of_no_cause {i : Instr} {s : State} (hs : stateCause i s = false) (hc : configCause i s = false) :
    exec i s = .next (s.effect i) := by
  simp [exec_eq, hs, hc]

/-- Settles O13. -/
theorem setsrcRestartsTheRing : Obligations.SetsrcRestartsTheRing := by
  intro s rs mono _
  rw [← encode_setsrc_eq_ofNat]
  exact ⟨fun hrun => exec_of_stateCause hrun, fun hstop => exec_of_no_cause hstop rfl⟩

/-- Settles O16. -/
theorem refillStartsARefill : Obligations.RefillStartsARefill := by
  intro s idx _
  rw [← encode_refill_eq_ofNat]
  exact ⟨fun hinit => exec_of_stateCause (by simp [stateCause, hinit]),
    fun hinit => exec_of_no_cause (by simp [stateCause, hinit]) rfl⟩

/-- Settles O39. -/
theorem disabledAgentsDoNothing : Obligations.DisabledAgentsDoNothing :=
  fun _ => ⟨fun hidle => if_neg (by simp [hidle]), fun hstop => if_neg (by simp [hstop])⟩

/-! ## A push and a run of pushes (R248) -/

theorem State.evqPush_eq_queueAfter (s : State) (u : Word) :
    s.evqPush u = { s with evq := s.queueAfter [u], evqOvf := s.ovfAfter [u] } := by
  rcases s.evqPush_cases u with ⟨hroom, e⟩ | ⟨hfull, e⟩ <;> rw [e]
  · have hq : s.queueAfter [u] = s.evq ++ [u] := by
      rw [State.queueAfter, List.take_of_length_le (by rw [List.length_singleton]; omega)]
    have ho : s.ovfAfter [u] = s.evqOvf := by
      rw [State.ovfAfter, decide_eq_false (by rw [List.length_singleton]; omega), Bool.or_false]
    rw [hq, ho]
    rfl
  · have hq : s.queueAfter [u] = s.evq := by
      rw [State.queueAfter, Nat.sub_eq_zero_of_le hfull, List.take_zero, List.append_nil]
    have ho : s.ovfAfter [u] = true := by
      rw [State.ovfAfter, decide_eq_true (by rw [List.length_singleton]; omega), Bool.or_true]
    rw [hq, ho]

/-- The queue and its flag stand as a run of pushes from `s` leaves them. -/
def State.Pushed (s : State) (us : List Word) (t : State) : Prop :=
  t.params = s.params ∧ t.evq = s.queueAfter us ∧ t.evqOvf = s.ovfAfter us

theorem State.Pushed.nil {s : State} (h : s.evq.length ≤ s.params.evqDepth) : s.Pushed [] s := by
  simpa [State.Pushed, State.queueAfter, State.ovfAfter] using fun hfull => absurd hfull (Nat.not_lt.2 h)

theorem State.Pushed.queueAfter {s t : State} {us : List Word} (h : s.Pushed us t) (vs : List Word) :
    t.queueAfter vs = s.queueAfter (us ++ vs) := by
  obtain ⟨hp, hq, -⟩ := h
  rw [State.queueAfter, hp, hq, State.queueAfter, State.queueAfter, List.append_assoc, List.take_append]
  congr 3
  rw [List.length_append, List.length_take]
  omega

theorem State.Pushed.ovfAfter {s t : State} {us : List Word} (h : s.Pushed us t) (vs : List Word) :
    t.ovfAfter vs = s.ovfAfter (us ++ vs) := by
  obtain ⟨hp, hq, ho⟩ := h
  rw [State.ovfAfter, hp, hq, ho, State.queueAfter, State.ovfAfter, State.ovfAfter, Bool.or_assoc,
    ← Bool.decide_or, List.length_append, List.length_append, List.length_take]
  congr 2
  apply propext
  omega

/-! ## The hardware steps, with the whole next state (R124, R203) -/

section NextStates

variable {s : State}

/-- A good cursor is far from the end of its 32 bits (R29). -/
theorem State.Inv.toNat_cursor_succ (h : s.Inv) : (s.cursor + 1#32).toNat = s.cursor.toNat + 1 := by
  have hsize := (State.halfWords_le h.paramsWf).2
  have hcur := h.cursor
  rw [BitVec.toNat_add, BitVec.toNat_ofNat]
  omega

/-- A word index of a buffer is far from the end of its 14 bits (R32, R34). -/
theorem toNat_wordIndex_succ {p : Params} (hp : p.wf = true) {k : BitVec 14} (hk : k.toNat < p.n) :
    (k + 1#14).toNat = k.toNat + 1 := by
  have hn := ((Params.wf_iff _).1 hp).2.1
  rw [BitVec.toNat_add, BitVec.toNat_ofNat]
  omega

/-- The cursor part of `RefillWord`, in a good state (R124). -/
theorem State.Inv.advanceCursor_next (h : s.Inv) :
    s.advanceCursor = { s with
      cursor := if s.cursor.toNat + 1 = s.halfWords then 0#32 else s.cursor + 1#32
      curHalf := if s.cursor.toNat + 1 = s.halfWords then s.curHalf.other else s.curHalf
      evq := if s.cursor.toNat + 1 = s.halfWords then s.queueAfter [tokenStagingReq] else s.evq
      evqOvf := if s.cursor.toNat + 1 = s.halfWords then s.ovfAfter [tokenStagingReq] else s.evqOvf } := by
  rcases s.advanceCursor_cases with ⟨hend, e⟩ | ⟨hend, e⟩ <;> rw [h.toNat_cursor_succ] at hend <;> rw [e]
  · rw [State.evqPush_eq_queueAfter]
    simp only [if_pos hend]
    rfl
  · simp only [if_neg hend]

/-- The refill part of `RefillWord`, at a word of the buffer (R124). -/
theorem State.advanceRefill_next (hp : s.params.wf = true) (hk : s.rfK.toNat < s.params.n) :
    s.advanceRefill = { s with
      rfK := if s.rfK.toNat + 1 = s.params.n then 0#14 else s.rfK + 1#14
      busy := if s.rfK.toNat + 1 = s.params.n then false else s.busy
      fillIdx := if s.rfK.toNat + 1 = s.params.n then s.fillIdx.other else s.fillIdx } := by
  rcases s.advanceRefill_cases with ⟨hend, e⟩ | ⟨hend, e⟩ <;> rw [toNat_wordIndex_succ hp hk] at hend <;> rw [e]
  · simp only [if_pos hend]
  · simp only [if_neg hend]

/-- `RefillWord`, the whole next state (R124). -/
theorem State.Inv.refillWord_next (h : s.Inv) :
    refillWord s = { s with
      mem := s.mem.writeWord (tbAddr s.params s.rfIdx s.rfK.toNat) s.mixedWord
      cursor := if s.cursor.toNat + 1 = s.halfWords then 0#32 else s.cursor + 1#32
      curHalf := if s.cursor.toNat + 1 = s.halfWords then s.curHalf.other else s.curHalf
      evq := if s.cursor.toNat + 1 = s.halfWords then s.queueAfter [tokenStagingReq] else s.evq
      evqOvf := if s.cursor.toNat + 1 = s.halfWords then s.ovfAfter [tokenStagingReq] else s.evqOvf
      rfK := if s.rfK.toNat + 1 = s.params.n then 0#14 else s.rfK + 1#14
      busy := if s.rfK.toNat + 1 = s.params.n then false else s.busy
      fillIdx := if s.rfK.toNat + 1 = s.params.n then s.fillIdx.other else s.fillIdx } := by
  have hw := h.writeTb s.rfIdx s.mixedWord h.rfK
  rw [refillWord, hw.advanceCursor_next]
  exact State.advanceRefill_next h.paramsWf h.rfK

/-- In mono mode both lanes hold the left sample (R124, D35). -/
theorem State.mixedWord_eq (s : State) :
    s.mixedWord = pack (s.scaled (s.sb s.curHalf 0#1 s.sampleIndex))
      (s.scaled (s.sb s.curHalf (if s.mono then 0#1 else 1#1) s.sampleIndex)) := by
  unfold State.mixedWord State.rawRight State.rawLeft
  cases s.mono <;> rfl

theorem State.halfWords_eq (s : State) : s.halfWords = s.params.s * 2 ^ s.rs.toNat := Nat.shiftLeft_eq _ _

/-- The word `RefillWord` stores is the word then read. -/
theorem State.tb_writeWord (s : State) (i : Bit) (k : Nat) (w : Word) :
    State.tb { s with mem := s.mem.writeWord (tbAddr s.params i k) w } i k = w :=
  s.readWord_writeWord _ w

/-- Settles O31. -/
theorem refillWordProducesOneWord : Obligations.RefillWordProducesOneWord := by
  intro s h hbusy
  refine ⟨s.mem.writeWord (tbAddr s.params s.rfIdx s.rfK.toNat) s.mixedWord, ?_, ?_,
    fun a ha => Memory.lookup_writeWord_outside _ _ _ a ha⟩
  · rw [cpTurn, if_pos hbusy, h.refillWord_next, hbusy, State.halfWords_eq]
    rfl
  · rw [State.tb_writeWord, State.mixedWord_eq, State.sampleIndex, Nat.shiftRight_eq_div_pow]
    rfl

theorem canonicalDesc_irqEn (p : Params) (i : Bit) : (canonicalDesc p i).irqEn = true := by
  show (canonicalCtrl i).getLsbD 1 = true
  revert i
  decide

theorem canonicalDesc_chainTo (p : Params) (i : Bit) : (canonicalDesc p i).chainTo = i.other := by
  show (canonicalCtrl i).extractLsb' 8 1 = i.other
  revert i
  decide

/-- The word a canonical descriptor reads is the word of its buffer at `POS` (R201, R205 (a)). -/
theorem State.dmaWord_eq_tb (hp : s.params.wf = true) (hcanon : s.descCanonical = true) :
    s.dmaWord = s.tb s.act s.pos.toNat := by
  obtain ⟨-, hn, -⟩ := (Params.wf_iff _).1 hp
  have hbase : 4 * s.act.toNat * s.params.n ≤ 4 * s.params.n := Nat.mul_le_mul_right _ (by omega)
  have hread : (canonicalDesc s.params s.act).readAddr.toNat = tbBase + 4 * s.act.toNat * s.params.n := by
    rw [canonicalDesc, BitVec.toNat_ofNat]
    exact Nat.mod_eq_of_lt (by unfold tbBase; omega)
  rw [State.dmaWord, State.desc_eq_canonicalDesc hcanon, hread, State.tb, tbAddr]
  congr 1
  ring

/-- What `Tick` leaves when the descriptors are canonical (R203). -/
def State.afterTick (s : State) : State := { s with
  cc := s.tb s.act s.pos.toNat
  out := s.out ++ [s.tb s.act s.pos.toNat]
  pos := if s.pos.toNat + 1 = s.params.n then 0#14 else s.pos + 1#14
  act := if s.pos.toNat + 1 = s.params.n then s.act.other else s.act
  evq := if s.pos.toNat + 1 = s.params.n then s.queueAfter [tokenTransferDone s.act] else s.evq
  evqOvf := if s.pos.toNat + 1 = s.params.n then s.ovfAfter [tokenTransferDone s.act] else s.evqOvf }

/-- `Tick`, the whole next state (R203). -/
theorem State.Inv.tick_next (h : s.Inv) (hrun : s.running = true) : tick s = .next s.afterTick := by
  obtain ⟨-, hcanon⟩ := h.initedConfig (h.runningInited hrun)
  have hlast : s.pos + 1#14 = (canonicalDesc s.params s.act).transfers ↔ s.pos.toNat + 1 = s.params.n := by
    rw [← BitVec.toNat_inj, canonicalDesc_transfers h.paramsWf, toNat_wordIndex_succ h.paramsWf h.pos]
  refine (tick_next_iff _ _).2 ⟨hcanon, ?_⟩
  rw [State.dmaWord_eq_tb h.paramsWf hcanon, State.desc_eq_canonicalDesc hcanon, State.advanceDma,
    canonicalDesc_irqEn, canonicalDesc_chainTo, State.evqPush_eq_queueAfter, State.afterTick]
  simp only [State.outputWord_pos, hlast]
  split_ifs <;> rfl

theorem State.Inv.afterTick (h : s.Inv) (hrun : s.running = true) : s.afterTick.Inv :=
  h.dsTurn (by rw [Machine.dsTurn, if_pos hrun, h.tick_next hrun])

theorem State.Inv.refillWord (h : s.Inv) (hbusy : s.busy = true) : (refillWord s).Inv :=
  h.cpTurn (by rw [Machine.cpTurn, if_pos hbusy])

end NextStates

/-! ## `Tick` beside `RefillWord` (R126) -/

/-- A word written in one buffer is no part of the other (R61). -/
theorem State.Inv.refillWord_tb_other {s : State} (h : s.Inv) {i : Bit} {k : Nat} (hi : i ≠ s.rfIdx)
    (hk : k < s.params.n) : (Machine.refillWord s).tb i k = s.tb i k := by
  have hapart := (memoryLocationsAreDisjoint s.params h.paramsWf).1 i s.rfIdx k s.rfK.toNat hk h.rfK (by simp [hi])
  rw [refillWord_eq]
  exact State.readWord_congr rfl fun x hlo hhi =>
    Memory.lookup_writeWord_outside _ _ _ _ (by simp only at hlo hhi; omega)

/-- Settles O34. -/
theorem tickAndRefillWordCommute : Obligations.TickAndRefillWordCommute := by
  intro s h hbusy hrun hother hpush
  have hrun' : (refillWord s).running = true := by rw [refillWord_eq]; exact hrun
  refine ⟨_, h.tick_next hrun, ?_⟩
  rw [(h.refillWord hbusy).tick_next hrun', (h.afterTick hrun).refillWord_next]
  have htb : (refillWord s).tb (refillWord s).act (refillWord s).pos.toNat = s.tb s.act s.pos.toNat := by
    have hplace : (refillWord s).act = s.act ∧ (refillWord s).pos = s.pos := by rw [refillWord_eq]; exact ⟨rfl, rfl⟩
    rw [hplace.1, hplace.2, h.refillWord_tb_other hother h.pos]
  rw [State.afterTick, htb, h.refillWord_next]
  rcases hpush with hpos | hcur
  · simp only [State.afterTick, if_neg hpos]
    rfl
  · have hcur' : s.afterTick.cursor.toNat + 1 ≠ s.afterTick.halfWords := hcur
    simp only [if_neg hcur, if_neg hcur']
    rfl

/-! ## Reads that do not depend on the free bytes (U1) -/

/-- A written byte reads alike in every step that finds it unchanged. -/
theorem State.readByte_of_written {s t : State} {a : Nat} (hw : (s.mem.lookup a).isSome = true)
    (hmem : t.mem.lookup a = s.mem.lookup a) : t.readByte a = s.readByte a := by
  obtain ⟨b, hb⟩ := Option.isSome_iff_exists.1 hw
  simp [State.readByte, hmem, hb]

theorem State.tb_of_written {s t : State} {i : Bit} {k : Nat} (hw : s.tbWritten i k) (hp : t.params = s.params)
    (hmem : ∀ j < 4, t.mem.lookup (tbAddr s.params i k + j) = s.mem.lookup (tbAddr s.params i k + j)) :
    t.tb i k = s.tb i k := by
  have hbyte : ∀ j < 4, t.readByte (tbAddr s.params i k + j) = s.readByte (tbAddr s.params i k + j) :=
    fun j hj => State.readByte_of_written (hw j hj) (hmem j hj)
  have h0 : t.readByte (tbAddr s.params i k) = s.readByte (tbAddr s.params i k) := hbyte 0 (by decide)
  rw [State.tb, State.tb, hp, State.readWord, State.readWord, h0, hbyte 1 (by decide), hbyte 2 (by decide),
    hbyte 3 (by decide)]

theorem State.sb_of_written {s t : State} {h c : Bit} {i : Nat} (hw : s.sbWritten h c i) (hp : t.params = s.params)
    (hmem : ∀ j < 2, t.mem.lookup (sbAddr s.params h c i + j) = s.mem.lookup (sbAddr s.params h c i + j)) :
    t.sb h c i = s.sb h c i := by
  have hbyte : ∀ j < 2, t.readByte (sbAddr s.params h c i + j) = s.readByte (sbAddr s.params h c i + j) :=
    fun j hj => State.readByte_of_written (hw j hj) (hmem j hj)
  have h0 : t.readByte (sbAddr s.params h c i) = s.readByte (sbAddr s.params h c i) := hbyte 0 (by decide)
  rw [State.sb, State.sb, hp, State.readHalf, State.readHalf, h0, hbyte 1 (by decide)]

theorem Memory.lookup_writeWord_inside (m : Memory) (a : Nat) (v : Word) {j : Nat} (hj : j < 4) :
    (m.writeWord a v).lookup (a + j) = some (byteOf v j) := by
  rw [Memory.lookup_writeWord]
  interval_cases j <;> simp

/-- Four written bytes are read as the word they are the bytes of. -/
theorem State.readWord_of_bytes {s : State} {a : Nat} {v : Word}
    (h : ∀ j < 4, s.mem.lookup (a + j) = some (byteOf v j)) : s.readWord a = v := by
  rw [← s.readWord_writeWord a v]
  refine State.readWord_congr rfl fun x hlo hhi => ?_
  obtain ⟨j, rfl⟩ := Nat.exists_eq_add_of_le hlo
  rw [State.setMem_mem, h j (by omega), Memory.lookup_writeWord_inside _ _ _ (by omega)]

/-! ## The cursor over the halves (R125) -/

theorem div_mod_succ_of_last {g size : Nat} (h : g % size + 1 = size) :
    (g + 1) / size = g / size + 1 ∧ (g + 1) % size = 0 := by
  have hg := Nat.mod_add_div g size
  refine (Nat.div_mod_unique (by omega)).2 ⟨?_, by omega⟩
  rw [Nat.mul_add]
  omega

theorem div_mod_succ_of_inside {g size : Nat} (h : g % size + 1 < size) :
    (g + 1) / size = g / size ∧ (g + 1) % size = g % size + 1 := by
  have hg := Nat.mod_add_div g size
  exact (Nat.div_mod_unique (by omega)).2 ⟨by omega, h⟩

/-- One more half switch. -/
theorem other_xor_ofNat (h : Bit) (q : Nat) : (h ^^^ BitVec.ofNat 1 q).other = h ^^^ BitVec.ofNat 1 (q + 1) := by
  rw [BitVec.ofNat_add]
  generalize BitVec.ofNat 1 q = b
  revert h b
  decide

/-! ## A refill in progress (R125) -/

/-- `t` stands after `c` words of the refill that starts at `s`, and nothing but the refill has written the ring's
registers or memory (R125). -/
structure State.Refilled (s : State) (c : Nat) (t : State) : Prop where
  params : t.params = s.params
  rs : t.rs = s.rs
  mono : t.mono = s.mono
  vol : t.vol = s.vol
  wrap : t.wrap = s.wrap
  rfIdx : t.rfIdx = s.rfIdx
  cursor : t.cursor.toNat = (s.cursor.toNat + c) % s.halfWords
  curHalf : t.curHalf = s.curHalf ^^^ BitVec.ofNat 1 ((s.cursor.toNat + c) / s.halfWords)
  progress : (c < s.params.n ∧ t.rfK.toNat = c ∧ t.busy = true ∧ t.fillIdx = s.fillIdx) ∨
    (c = s.params.n ∧ t.rfK = 0#14 ∧ t.busy = false ∧ t.fillIdx = s.fillIdx.other)
  words : ∀ k < c, ∀ j < 4, t.mem.lookup (tbAddr s.params s.rfIdx k + j) = some (byteOf (s.refillWordAt k) j)
  outside : ∀ a, (∀ k < s.params.n, a < tbAddr s.params s.rfIdx k ∨ tbAddr s.params s.rfIdx k + 4 ≤ a) →
    t.mem.lookup a = s.mem.lookup a

namespace State.Refilled

variable {s t : State} {c : Nat}

theorem start (h : s.Inv) (hbusy : s.busy = true) (hk : s.rfK = 0#14) : s.Refilled 0 s where
  params := rfl
  rs := rfl
  mono := rfl
  vol := rfl
  wrap := rfl
  rfIdx := rfl
  cursor := (Nat.mod_eq_of_lt h.cursor).symm
  curHalf := by rw [Nat.add_zero, Nat.div_eq_of_lt h.cursor]; exact (BitVec.xor_zero).symm
  progress := .inl ⟨((Params.wf_iff _).1 h.paramsWf).1, by rw [hk]; rfl, hbusy, rfl⟩
  words := fun _ hk => absurd hk (Nat.not_lt_zero _)
  outside := fun _ _ => rfl

theorem beginTurn (h : s.Refilled c t) (turns : List Agent) : s.Refilled c (t.beginTurn turns) := { h with }

theorem afterTick (h : s.Refilled c t) : s.Refilled c t.afterTick := { h with }

theorem halfWords (h : s.Refilled c t) : t.halfWords = s.halfWords := by
  rw [State.halfWords, h.params, h.rs, State.halfWords]

theorem rfK_of_lt (h : s.Refilled c t) (hc : c < s.params.n) :
    t.rfK.toNat = c ∧ t.busy = true ∧ t.fillIdx = s.fillIdx := by
  rcases h.progress with ⟨-, hprogress⟩ | ⟨hend, -⟩
  · exact hprogress
  · omega

theorem scaled (h : s.Refilled c t) (raw : Half) : t.scaled raw = s.scaled raw := by
  rw [State.scaled, h.wrap, h.vol, State.scaled]

/-- The words of the other buffer are as they were. -/
theorem tb_other (h : s.Refilled c t) (hp : s.params.wf = true) {i : Bit} {k : Nat} (hi : i ≠ s.rfIdx)
    (hk : k < s.params.n) (hw : s.tbWritten i k) : t.tb i k = s.tb i k := by
  refine State.tb_of_written hw h.params fun j hj => h.outside _ fun l hl => ?_
  have hapart := (memoryLocationsAreDisjoint s.params hp).1 i s.rfIdx k l hk hl (by simp [hi])
  omega

/-- The samples are as they were. -/
theorem sb_eq (h : s.Refilled c t) (hp : s.params.wf = true) {half ch : Bit} {i : Nat} (hi : i < s.params.s)
    (hw : s.sbWritten half ch i) : t.sb half ch i = s.sb half ch i := by
  refine State.sb_of_written hw h.params fun j hj => h.outside _ fun l hl => ?_
  obtain ⟨-, hapart, -⟩ := (memoryLocationsAreDisjoint s.params hp).2.2 s.rfIdx half ch l i hl hi
  omega

/-- The next word is the one R125 gives. -/
theorem mixedWord (h : s.Refilled c t) (hp : s.params.wf = true) (hc : c < s.params.n)
    (hread : s.refillReadsWritten) : t.mixedWord = s.refillWordAt c := by
  obtain ⟨hleft, hright⟩ := hread c hc
  have hindex : t.sampleIndex = ((s.cursor.toNat + c) % s.halfWords) >>> s.rs.toNat := by
    rw [State.sampleIndex, h.cursor, h.rs]
  have hbound : ((s.cursor.toNat + c) % s.halfWords) >>> s.rs.toNat < s.params.s := by
    rw [Nat.shiftRight_eq_div_pow]
    refine Nat.div_lt_of_lt_mul ?_
    rw [Nat.mul_comm, ← State.halfWords_eq]
    exact Nat.mod_lt _ (State.halfWords_le hp).1
  rw [State.mixedWord_eq, State.refillWordAt, hindex, h.curHalf, h.mono, h.scaled, h.scaled,
    h.sb_eq hp hbound hleft]
  cases hm : s.mono with
  | true => rw [if_pos rfl, h.sb_eq hp hbound hleft]
  | false => rw [if_neg Bool.false_ne_true, h.sb_eq hp hbound (hright hm)]

/-- One word more ends the half, or is another word of it (R124). -/
theorem cursor_cases (h : s.Refilled c t) (ht : t.Inv) :
    (t.cursor.toNat + 1 = s.halfWords ∧
      (s.cursor.toNat + (c + 1)) / s.halfWords = (s.cursor.toNat + c) / s.halfWords + 1 ∧
      (s.cursor.toNat + (c + 1)) % s.halfWords = 0) ∨
    (t.cursor.toNat + 1 ≠ s.halfWords ∧
      (s.cursor.toNat + (c + 1)) / s.halfWords = (s.cursor.toNat + c) / s.halfWords ∧
      (s.cursor.toNat + (c + 1)) % s.halfWords = (t.cursor + 1#32).toNat) := by
  have hcur := ht.cursor
  rw [h.halfWords] at hcur
  by_cases hlast : t.cursor.toNat + 1 = s.halfWords
  · exact .inl ⟨hlast, div_mod_succ_of_last (h.cursor ▸ hlast)⟩
  · have hinside : (s.cursor.toNat + c) % s.halfWords + 1 < s.halfWords := by rw [← h.cursor]; omega
    rw [ht.toNat_cursor_succ, h.cursor]
    exact .inr ⟨h.cursor ▸ hlast, div_mod_succ_of_inside hinside⟩

/-- One `RefillWord` more. -/
theorem refillWord (h : s.Refilled c t) (ht : t.Inv) (hc : c < s.params.n) (hread : s.refillReadsWritten) :
    s.Refilled (c + 1) (refillWord t) := by
  have hp : s.params.wf = true := h.params ▸ ht.paramsWf
  obtain ⟨hk, hbusy, hfill⟩ := h.rfK_of_lt hc
  rw [ht.refillWord_next, h.halfWords, h.params, h.rfIdx, hk, h.mixedWord hp hc hread]
  refine { h with params := rfl, rfIdx := rfl, cursor := ?_, curHalf := ?_, progress := ?_, words := ?_, outside := ?_ }
  · show BitVec.toNat (ite _ _ _) = _
    rcases h.cursor_cases ht with ⟨hlast, -, hmod⟩ | ⟨hlast, -, hmod⟩
    · rw [if_pos hlast, hmod]
      rfl
    · rw [if_neg hlast, hmod]
  · show ite _ _ _ = _
    rcases h.cursor_cases ht with ⟨hlast, hdiv, -⟩ | ⟨hlast, hdiv, -⟩
    · rw [if_pos hlast, hdiv, h.curHalf, other_xor_ofNat]
    · rw [if_neg hlast, hdiv, h.curHalf]
  · by_cases hend : c + 1 = s.params.n
    · exact .inr ⟨hend, if_pos hend, if_pos hend, (if_pos hend).trans (by rw [hfill])⟩
    · have hnext : (t.rfK + 1#14).toNat = c + 1 := by rw [toNat_wordIndex_succ ht.paramsWf ht.rfK, hk]
      exact .inl ⟨by omega, (congrArg BitVec.toNat (if_neg hend)).trans hnext, (if_neg hend).trans hbusy,
        (if_neg hend).trans hfill⟩
  · intro k hkc j hj
    rcases Nat.lt_succ_iff_lt_or_eq.1 hkc with hlt | rfl
    · have hapart := (memoryLocationsAreDisjoint s.params hp).1 s.rfIdx s.rfIdx k c (hlt.trans hc) hc
        fun he => hlt.ne (congrArg Prod.snd he)
      exact (Memory.lookup_writeWord_outside _ _ _ _ (by omega)).trans (h.words k hlt j hj)
    · exact Memory.lookup_writeWord_inside _ _ _ hj
  · exact fun a ha => (Memory.lookup_writeWord_outside _ _ _ a (ha c hc)).trans (h.outside a ha)

/-- One `RefillWord` more pushes the `STAGING_REQ` of the half it ends. -/
theorem refillWord_pushed (h : s.Refilled c t) (ht : t.Inv)
    (hq : s.Pushed (List.replicate ((s.cursor.toNat + c) / s.halfWords) tokenStagingReq) t) :
    s.Pushed (List.replicate ((s.cursor.toNat + (c + 1)) / s.halfWords) tokenStagingReq) (Machine.refillWord t) := by
  rw [ht.refillWord_next, h.halfWords]
  rcases h.cursor_cases ht with ⟨hlast, hdiv, -⟩ | ⟨hlast, hdiv, -⟩
  · simp only [if_pos hlast]
    rw [hdiv, List.replicate_succ', hq.queueAfter, hq.ovfAfter]
    exact ⟨h.params, rfl, rfl⟩
  · simp only [if_neg hlast]
    rw [hdiv]
    exact hq

theorem tb_eq (h : s.Refilled c t) {k : Nat} (hk : k < c) : t.tb s.rfIdx k = s.refillWordAt k := by
  rw [State.tb, h.params]
  exact State.readWord_of_bytes (h.words k hk)

/-- After word `N` the refill is over. -/
theorem finished (h : s.Refilled s.params.n t) : t.rfK = 0#14 ∧ t.busy = false ∧ t.fillIdx = s.fillIdx.other := by
  rcases h.progress with ⟨hlt, -⟩ | ⟨-, hdone⟩
  · omega
  · exact hdone

end State.Refilled

/-! ## Runs along a schedule (R5, R6) -/

theorem run_succ {s t : State} (h : step s = .next t) (n : Nat) :
    Host.Core.run core (n + 1) s = Host.Core.run core n t := by
  have hcore : core.step s = .next t := h
  simp only [Host.Core.run, hcore]

/-- A predicate of the turns still to come and the state, kept by every turn, holds at the end of the schedule. -/
theorem run_schedule {P : List Agent → State → Prop}
    (hturn : ∀ (g : Agent) (sched turns : List Agent) (t : State), P (g :: sched) t →
      ∃ u, agentTurn g (t.beginTurn turns) = .next u ∧ P sched u ∧ u.turns = turns)
    {sched rest : List Agent} {s : State} (hs : P sched s) (hturns : s.turns = sched ++ rest) :
    ∃ t, Host.Core.run core sched.length s = .next t ∧ P [] t ∧ t.turns = rest := by
  induction sched generalizing s with
  | nil => exact ⟨s, rfl, hs, hturns⟩
  | cons g sched ih =>
    obtain ⟨u, hu, hP, hrest⟩ := hturn g sched (sched ++ rest) s hs
    have hstep : step s = .next u := by
      rw [step, scheduledStep, hturns]
      exact hu
    rw [List.length_cons, run_succ hstep]
    exact ih hP hrest

theorem refillWord_turns (s : State) : (refillWord s).turns = s.turns := by rw [refillWord_eq]

theorem cpTurn_of_busy {s : State} (h : s.busy = true) : cpTurn s = .next (refillWord s) := if_pos h

/-! ## A whole refill (R125) -/

/-- The refill that starts at `s`, with one turn of `CP` scheduled for each word still to come. -/
def State.RefillRun (s : State) (sched : List Agent) (t : State) : Prop :=
  t.Inv ∧ (∀ g ∈ sched, g = .cp) ∧ ∃ c, c + sched.length = s.params.n ∧ s.Refilled c t ∧
    s.Pushed (List.replicate ((s.cursor.toNat + c) / s.halfWords) tokenStagingReq) t

theorem State.RefillRun.turn {s t : State} {g : Agent} {sched : List Agent} (hread : s.refillReadsWritten)
    (h : s.RefillRun (g :: sched) t) (turns : List Agent) :
    ∃ u, agentTurn g (t.beginTurn turns) = .next u ∧ s.RefillRun sched u ∧ u.turns = turns := by
  obtain ⟨hinv, hcp, c, hcount, hrefilled, hpushed⟩ := h
  obtain ⟨rfl, hrest⟩ := List.forall_mem_cons.1 hcp
  rw [List.length_cons] at hcount
  have hc : c < s.params.n := by omega
  have hinv' := hinv.beginTurn turns
  have hrefilled' := hrefilled.beginTurn turns
  have hbusy := (hrefilled'.rfK_of_lt hc).2.1
  exact ⟨_, cpTurn_of_busy hbusy, ⟨hinv'.refillWord hbusy, hrest, c + 1, by omega,
    hrefilled'.refillWord hinv' hc hread, hrefilled'.refillWord_pushed hinv' hpushed⟩, refillWord_turns _⟩

/-- Settles O33, by induction over the `N` turns. -/
theorem refillClosedForm : Obligations.RefillClosedForm := by
  intro s rest hinv hbusy hk hread hturns
  have hstart : s.RefillRun (List.replicate s.params.n .cp) s :=
    ⟨hinv, fun _ hg => List.eq_of_mem_replicate hg, 0, by rw [List.length_replicate, Nat.zero_add],
      .start hinv hbusy hk, by
        rw [Nat.add_zero, Nat.div_eq_of_lt hinv.cursor]
        exact .nil hinv.evqLength⟩
  obtain ⟨t, hrun, ⟨-, -, c, hc, hrefilled, -, hevq, hovf⟩, hrest⟩ :=
    run_schedule (fun _ _ turns _ h => h.turn hread turns) hstart hturns
  obtain rfl : c = s.params.n := hc
  rw [List.length_replicate] at hrun
  obtain ⟨hk', hbusy', hfill⟩ := hrefilled.finished
  exact ⟨t, hrun, fun k hk => hrefilled.tb_eq hk, hrefilled.cursor, hrefilled.curHalf, hevq, hovf, hfill, hbusy', hk',
    hrefilled.rfIdx, hrefilled.vol, hrefilled.wrap, hrefilled.rs, hrefilled.mono, hrest⟩

/-! ## A refill within its deadline (R126, R207, R290) -/

/-- `t` stands after `d` words of the rest of the pass that `s` is in, and nothing but `DS` has written its
registers or the output (R203). -/
structure State.PassOutput (s : State) (d : Nat) (t : State) : Prop where
  enMask : t.enMask = s.enMask
  out : t.out = s.out ++ (List.range d).map fun k => s.tb s.act (s.pos.toNat + k)
  place : (s.pos.toNat + d < s.params.n ∧ t.act = s.act ∧ t.pos.toNat = s.pos.toNat + d) ∨
    (s.pos.toNat + d = s.params.n ∧ t.act = s.act.other ∧ t.pos = 0#14)

namespace State.PassOutput

variable {s t : State} {d : Nat}

theorem start (h : s.Inv) : s.PassOutput 0 s where
  enMask := rfl
  out := (List.append_nil _).symm
  place := .inl ⟨h.pos, rfl, rfl⟩

theorem beginTurn (h : s.PassOutput d t) (turns : List Agent) : s.PassOutput d (t.beginTurn turns) := { h with }

theorem refillWord (h : s.PassOutput d t) : s.PassOutput d (refillWord t) := by
  rw [refillWord_eq]
  exact { h with }

theorem running (h : s.PassOutput d t) (hrun : s.running = true) : t.running = true := by
  rw [State.running, h.enMask]
  exact hrun

theorem place_of_lt (h : s.PassOutput d t) (hd : s.pos.toNat + d < s.params.n) :
    t.act = s.act ∧ t.pos.toNat = s.pos.toNat + d := by
  rcases h.place with ⟨-, hplace⟩ | ⟨hend, -⟩
  · exact hplace
  · omega

/-- One `Tick` more, when the word it reads is as it was. -/
theorem afterTick (h : s.PassOutput d t) (hp : s.params.wf = true) (hparams : t.params = s.params)
    (hd : s.pos.toNat + d < s.params.n) (htb : t.tb s.act (s.pos.toNat + d) = s.tb s.act (s.pos.toNat + d)) :
    s.PassOutput (d + 1) t.afterTick := by
  obtain ⟨hact, hpos⟩ := h.place_of_lt hd
  rw [State.afterTick, hparams, hact, hpos, htb]
  refine { enMask := h.enMask, out := ?_, place := ?_ }
  · show t.out ++ _ = _
    rw [h.out, List.range_succ, List.map_append, List.append_assoc]
    rfl
  · by_cases hend : s.pos.toNat + d + 1 = s.params.n
    · exact .inr ⟨hend, if_pos hend, if_pos hend⟩
    · have hnext : (t.pos + 1#14).toNat = s.pos.toNat + (d + 1) := by
        rw [toNat_wordIndex_succ hp (hpos ▸ hd), hpos]
        rfl
      exact .inl ⟨by omega, if_neg hend, (congrArg BitVec.toNat (if_neg hend)).trans hnext⟩

/-- After word `N` the pass is over and control has gone to the other buffer. -/
theorem finished (h : s.PassOutput (s.params.n - s.pos.toNat) t) (hpos : s.pos.toNat < s.params.n) :
    t.act = s.act.other ∧ t.pos = 0#14 := by
  rcases h.place with ⟨hlt, -⟩ | ⟨-, hdone⟩
  · omega
  · exact hdone

end State.PassOutput

theorem dsTurn_of_running {s : State} (h : s.Inv) (hrun : s.running = true) : dsTurn s = .next s.afterTick :=
  (if_pos hrun).trans (h.tick_next hrun)

theorem Bit.other_eq_of_ne {i j : Bit} (h : i ≠ j) : j.other = i := by
  revert i j
  decide

/-- The refill that starts at `s` and the rest of the pass `s` is in, with a turn scheduled for each word of the two
still to come. -/
def State.DeadlineRun (s : State) (sched : List Agent) (t : State) : Prop :=
  t.Inv ∧ sched.count .host = 0 ∧ ∃ c d, c + sched.count .cp = s.params.n ∧
    d + sched.count .ds = s.params.n - s.pos.toNat ∧ s.Refilled c t ∧ s.PassOutput d t

/-- The refill's word and the pass's word lie in different buffers, so neither turn undoes what the other has done. -/
theorem State.DeadlineRun.turn {s t : State} {g : Agent} {sched : List Agent} (hrun : s.running = true)
    (hother : s.rfIdx ≠ s.act) (hread : s.refillReadsWritten)
    (hbuffer : ∀ k, s.pos.toNat ≤ k → k < s.params.n → s.tbWritten s.act k)
    (h : s.DeadlineRun (g :: sched) t) (turns : List Agent) :
    ∃ u, agentTurn g (t.beginTurn turns) = .next u ∧ s.DeadlineRun sched u ∧ u.turns = turns := by
  obtain ⟨hinv, hhost, c, d, hcp, hds, hrefilled, hpass⟩ := h
  replace hinv := hinv.beginTurn turns
  replace hrefilled := hrefilled.beginTurn turns
  replace hpass := hpass.beginTurn turns
  have hp : s.params.wf = true := hrefilled.params ▸ hinv.paramsWf
  cases g with
  | host => simp [List.count_cons_self] at hhost
  | cp =>
    rw [List.count_cons_self] at hcp
    rw [List.count_cons_of_ne (by decide)] at hhost hds
    have hc : c < s.params.n := by omega
    have hbusy := (hrefilled.rfK_of_lt hc).2.1
    exact ⟨_, cpTurn_of_busy hbusy, ⟨hinv.refillWord hbusy, hhost, c + 1, d, by omega, hds,
      hrefilled.refillWord hinv hc hread, hpass.refillWord⟩, refillWord_turns _⟩
  | ds =>
    rw [List.count_cons_self] at hds
    rw [List.count_cons_of_ne (by decide)] at hhost hcp
    have hd : s.pos.toNat + d < s.params.n := by omega
    have hrun' := hpass.running hrun
    have htb := hrefilled.tb_other hp hother.symm hd (hbuffer _ (by omega) hd)
    exact ⟨_, dsTurn_of_running hinv hrun', ⟨hinv.afterTick hrun', hhost, c, d + 1, hcp, by omega,
      hrefilled.afterTick, hpass.afterTick hp hrefilled.params hd htb⟩, rfl⟩

/-- Settles O35, by induction over the schedule. -/
theorem refillWithinItsDeadlineIsGlitchFree : Obligations.RefillWithinItsDeadlineIsGlitchFree := by
  intro s sched rest hinv hbusy hrun hk hother hread hbuffer hturns hcp hds hhost
  have hstart : s.DeadlineRun sched s :=
    ⟨hinv, hhost, 0, 0, by omega, by omega, .start hinv hbusy hk, .start hinv⟩
  obtain ⟨t, hrun', ⟨-, -, c, d, hc, hd, hrefilled, hpass⟩, -⟩ :=
    run_schedule (fun _ _ turns _ h => h.turn hrun hother hread hbuffer turns) hstart hturns
  obtain rfl : c = s.params.n := hc
  obtain rfl : d = s.params.n - s.pos.toNat := hd
  obtain ⟨-, hidle, -⟩ := hrefilled.finished
  obtain ⟨hact, hpos⟩ := hpass.finished hinv.pos
  exact ⟨t, hrun', hpass.out, fun k hk => hrefilled.tb_eq hk, hact.trans (Bit.other_eq_of_ne hother), hpos, hidle,
    hpass.running hrun⟩

end Sys2Proof.Machine

/-! SUPPORT. The volume mixer family (41_volume_mixer): `round_div` as the nearest integer, `scale` as the clamp of a
rounded excursion from the mid-point, and the saturating volume commands. -/

namespace Sys2Proof.Machine

/-! ## `round_div` (R142) -/

theorem roundDiv_of_nonneg {p : Int} (hp : 0 ≤ p) (d : Int) : roundDiv p d = (2 * p + d) / (2 * d) := if_pos hp

theorem roundDiv_zero {d : Int} (hd : 1 ≤ d) : roundDiv 0 d = 0 := by
  rw [roundDiv_of_nonneg le_rfl]
  exact Int.ediv_eq_zero_of_lt (by omega) (by omega)

theorem roundDiv_neg {d : Int} (hd : 1 ≤ d) (p : Int) : roundDiv (-p) d = -roundDiv p d := by
  rcases lt_trichotomy p 0 with hp | rfl | hp
  · rw [roundDiv_of_nonneg (by omega), roundDiv, if_neg (by omega), neg_neg]
  · rw [neg_zero, roundDiv_zero hd, neg_zero]
  · rw [roundDiv, if_neg (by omega), neg_neg, roundDiv_of_nonneg hp.le]

/-- Above zero `round_div` rounds half up: the distance to `p` is `d / 2` only when the multiple of `d` is above. -/
theorem roundDiv_bounds_of_nonneg {p d : Int} (hp : 0 ≤ p) (hd : 1 ≤ d) :
    2 * p - d < 2 * (d * roundDiv p d) ∧ 2 * (d * roundDiv p d) ≤ 2 * p + d := by
  have hle : 2 * d * roundDiv p d ≤ 2 * p + d := by
    rw [roundDiv_of_nonneg hp]
    exact Int.mul_ediv_self_le (by omega)
  have hlt : 2 * p + d < 2 * d * roundDiv p d + 2 * d := by
    rw [roundDiv_of_nonneg hp]
    exact Int.lt_mul_ediv_self_add (by omega)
  rw [mul_assoc] at hle hlt
  omega

theorem roundDiv_nearest_of_nonneg {p d : Int} (hp : 0 ≤ p) (hd : 1 ≤ d) :
    2 * |d * roundDiv p d - p| ≤ d ∧ (2 * |d * roundDiv p d - p| = d → |p| < |d * roundDiv p d|) := by
  have hbounds := roundDiv_bounds_of_nonneg hp hd
  generalize d * roundDiv p d = m at hbounds ⊢
  rw [abs_of_nonneg hp]
  rcases abs_cases (m - p) with ⟨habs, -⟩ | ⟨habs, -⟩ <;> rw [habs]
  · exact ⟨by omega, fun _ => lt_of_lt_of_le (by omega) (le_abs_self m)⟩
  · exact ⟨by omega, fun htie => by omega⟩

/-- The integer nearest to `p / d`, and the one further from zero at a tie. -/
theorem roundDiv_nearest {d : Int} (hd : 1 ≤ d) (p : Int) :
    2 * |d * roundDiv p d - p| ≤ d ∧ (2 * |d * roundDiv p d - p| = d → |p| < |d * roundDiv p d|) := by
  rcases le_total 0 p with hp | hp
  · exact roundDiv_nearest_of_nonneg hp hd
  · have hmirror := roundDiv_nearest_of_nonneg (Int.neg_nonneg_of_nonpos hp) hd
    rwa [roundDiv_neg hd, mul_neg, neg_sub_neg, abs_sub_comm, abs_neg, abs_neg] at hmirror

/-- Settles O25: the nearest integer on either side of zero, and odd. -/
theorem roundDivIsNearestTiesAwayFromZero : Obligations.RoundDivIsNearestTiesAwayFromZero := fun p _ hd =>
  ⟨(roundDiv_nearest hd p).1, (roundDiv_nearest hd p).2, roundDiv_neg hd p⟩

theorem roundDiv_mono {d p p' : Int} (hd : 1 ≤ d) (h : p ≤ p') : roundDiv p d ≤ roundDiv p' d := by
  rcases h.eq_or_lt with rfl | hlt
  · exact le_rfl
  · by_contra hgt
    have hstep : d * (roundDiv p' d + 1) ≤ d * roundDiv p d :=
      mul_le_mul_of_nonneg_left (Int.add_one_le_of_lt (not_le.mp hgt)) (by omega)
    rw [mul_add, mul_one] at hstep
    have hnear := (roundDiv_nearest hd p).1
    have hnear' := (roundDiv_nearest hd p').1
    have habove := le_abs_self (d * roundDiv p d - p)
    have hbelow := neg_le_abs (d * roundDiv p' d - p')
    omega

theorem roundDiv_mul_self {d : Int} (hd : 1 ≤ d) (a : Int) : roundDiv (a * d) d = a := by
  have hnear := (roundDiv_nearest hd (a * d)).1
  rw [mul_comm a d, ← mul_sub, abs_mul, abs_of_pos (show 0 < d by omega)] at hnear
  have hone : |roundDiv (d * a) d - a| < 1 := by nlinarith
  rw [mul_comm a d]
  exact sub_eq_zero.mp (Int.abs_lt_one_iff.mp hone)

/-- Rounding `a * v / d` with `v <= d` does not leave the interval between 0 and `a`. -/
theorem roundDiv_mul_of_nonneg {a v d : Int} (hd : 1 ≤ d) (hv : 0 ≤ v) (hvd : v ≤ d) (ha : 0 ≤ a) :
    0 ≤ roundDiv (a * v) d ∧ roundDiv (a * v) d ≤ a := by
  constructor
  · calc 0 = roundDiv 0 d := (roundDiv_zero hd).symm
      _ ≤ roundDiv (a * v) d := roundDiv_mono hd (mul_nonneg ha hv)
  · calc roundDiv (a * v) d ≤ roundDiv (a * d) d := roundDiv_mono hd (mul_le_mul_of_nonneg_left hvd ha)
      _ = a := roundDiv_mul_self hd a

theorem roundDiv_mul_of_nonpos {a v d : Int} (hd : 1 ≤ d) (hv : 0 ≤ v) (hvd : v ≤ d) (ha : a ≤ 0) :
    a ≤ roundDiv (a * v) d ∧ roundDiv (a * v) d ≤ 0 := by
  have hmirror := roundDiv_mul_of_nonneg hd hv hvd (Int.neg_nonneg_of_nonpos ha)
  rw [neg_mul, roundDiv_neg hd] at hmirror
  omega

/-! ## `scale` (R141) -/

theorem clamp_eq_max_min {v lo hi : Int} (h : lo ≤ hi) : clamp v lo hi = max lo (min v hi) := by
  unfold clamp
  split_ifs <;> omega

@[simp] theorem toNat_midOf (wrap : Half) : (midOf wrap).toNat = wrap.toNat / 2 := by
  rw [midOf, BitVec.toNat_ushiftRight, Nat.shiftRight_eq_div_pow, pow_one]

/-- `round_div((raw - MID) * VOL, VOL_ONE) + MID`: the level of R141 before the clamp. -/
def mixedLevel (wrap vol raw : Half) : Int :=
  roundDiv (((raw.toNat : Int) - (wrap.toNat / 2 : Nat)) * vol.toNat) 10 + (wrap.toNat / 2 : Nat)

theorem scaleInt_eq (wrap vol raw : Half) :
    scaleInt wrap vol raw = max 0 (min (mixedLevel wrap vol raw) wrap.toNat) := by
  rw [scaleInt, clamp_eq_max_min (Int.natCast_nonneg _), toNat_midOf]
  rfl

theorem toNat_scale_eq_scaleInt (wrap vol raw : Half) : ((scale wrap vol raw).toNat : Int) = scaleInt wrap vol raw := by
  have hrange : 0 ≤ scaleInt wrap vol raw ∧ scaleInt wrap vol raw < (2 ^ 16 : Nat) := by
    rw [scaleInt_eq]
    omega
  rw [scale, BitVec.toNat_ofInt, Int.emod_eq_of_lt hrange.1 hrange.2, Int.toNat_of_nonneg hrange.1]

/-- The 16-bit result, as the clamp of the mixed level. -/
theorem toNat_scale (wrap vol raw : Half) :
    ((scale wrap vol raw).toNat : Int) = max 0 (min (mixedLevel wrap vol raw) wrap.toNat) :=
  (toNat_scale_eq_scaleInt wrap vol raw).trans (scaleInt_eq wrap vol raw)

/-- Settles O26: what the clamp leaves lies in `[0, WRAP]`, and so in 16 bits. -/
theorem scaleStaysInRange : Obligations.ScaleStaysInRange := by
  intro wrap vol raw
  have hscale := toNat_scale wrap vol raw
  exact ⟨toNat_scale_eq_scaleInt wrap vol raw, by omega⟩

theorem mixedLevel_full (wrap raw : Half) : mixedLevel wrap 10#16 raw = raw.toNat := by
  have hfull : roundDiv (((raw.toNat : Int) - (wrap.toNat / 2 : Nat)) * 10) 10 = raw.toNat - (wrap.toNat / 2 : Nat) :=
    roundDiv_mul_self (by decide) _
  exact (congrArg (· + _) hfull).trans (sub_add_cancel _ _)

theorem mixedLevel_silent (wrap raw : Half) : mixedLevel wrap 0#16 raw = (wrap.toNat / 2 : Nat) := by
  simp [mixedLevel, roundDiv_zero]

theorem mixedLevel_mid (wrap vol : Half) : mixedLevel wrap vol (midOf wrap) = (wrap.toNat / 2 : Nat) := by
  simp [mixedLevel, roundDiv_zero]

/-- Settles O27: at either end of the volume and at the mid-point the excursion is exact. -/
theorem scaleAtTheEndsOfTheVolume : Obligations.ScaleAtTheEndsOfTheVolume := by
  intro wrap vol raw
  have hfull := toNat_scale wrap 10#16 raw
  have hsilent := toNat_scale wrap 0#16 raw
  have hmid := toNat_scale wrap vol (midOf wrap)
  rw [mixedLevel_full] at hfull
  rw [mixedLevel_silent] at hsilent
  rw [mixedLevel_mid] at hmid
  omega

theorem mixedLevel_mono (wrap vol : Half) {raw raw' : Half} (h : raw.toNat ≤ raw'.toNat) :
    mixedLevel wrap vol raw ≤ mixedLevel wrap vol raw' := by
  have hmul : ((raw.toNat : Int) - (wrap.toNat / 2 : Nat)) * vol.toNat ≤
      ((raw'.toNat : Int) - (wrap.toNat / 2 : Nat)) * vol.toNat :=
    mul_le_mul_of_nonneg_right (by omega) (Int.natCast_nonneg _)
  exact add_le_add_left (roundDiv_mono (by decide) hmul) _

/-- Settles O28: the product, its rounding and the clamp are each non-decreasing. -/
theorem scaleIsMonotone : Obligations.ScaleIsMonotone := by
  intro wrap vol raw raw' h
  have hlevel := mixedLevel_mono wrap vol h
  have hscale := toNat_scale wrap vol raw
  have hscale' := toNat_scale wrap vol raw'
  omega

/-- At a volume of at most one the mixed level lies between the sample and the mid-point. -/
theorem mixedLevel_between {vol : Half} (hvol : vol.toNat ≤ 10) (wrap raw : Half) :
    min raw.toNat (wrap.toNat / 2) ≤ mixedLevel wrap vol raw ∧
    mixedLevel wrap vol raw ≤ max raw.toNat (wrap.toNat / 2) := by
  have hvol' : (vol.toNat : Int) ≤ 10 := by omega
  unfold mixedLevel
  rcases le_total 0 ((raw.toNat : Int) - (wrap.toNat / 2 : Nat)) with hx | hx
  · have hq := roundDiv_mul_of_nonneg (by decide) (Int.natCast_nonneg _) hvol' hx
    omega
  · have hq := roundDiv_mul_of_nonpos (by decide) (Int.natCast_nonneg _) hvol' hx
    omega

theorem toNat_scale_of_le_wrap {wrap vol raw : Half} (hvol : vol.toNat ≤ 10) (hraw : raw.toNat ≤ wrap.toNat) :
    ((scale wrap vol raw).toNat : Int) = mixedLevel wrap vol raw := by
  have hbetween := mixedLevel_between hvol wrap raw
  have hscale := toNat_scale wrap vol raw
  omega

theorem toNat_scale_eq_min {vol : Half} (hvol : vol.toNat ≤ 10) (wrap raw : Half) :
    ((scale wrap vol raw).toNat : Int) = min (mixedLevel wrap vol raw) wrap.toNat := by
  have hbetween := mixedLevel_between hvol wrap raw
  have hscale := toNat_scale wrap vol raw
  omega

/-- Settles O29: the mixed level lies between the sample and the mid-point, so it is never below 0 and is above
`WRAP` only if the sample is. -/
theorem scaleClampsOnlyAboveWrap : Obligations.ScaleClampsOnlyAboveWrap := fun wrap _ raw hvol =>
  ⟨toNat_scale_of_le_wrap hvol, fun _ => toNat_scale_eq_min hvol wrap raw⟩

/-- Opposite excursions from the mid-point stay opposite, since `round_div` is odd. -/
theorem mixedLevel_add_of_mirrored {wrap vol raw raw' : Half} (h : raw.toNat + raw'.toNat = 2 * (wrap.toNat / 2)) :
    mixedLevel wrap vol raw + mixedLevel wrap vol raw' = 2 * (wrap.toNat / 2 : Nat) := by
  have hopposite : (raw'.toNat : Int) - (wrap.toNat / 2 : Nat) = -((raw.toNat : Int) - (wrap.toNat / 2 : Nat)) := by
    omega
  rw [mixedLevel, mixedLevel, hopposite, neg_mul, roundDiv_neg (by decide)]
  ring

/-- Settles O30: both samples are at most `WRAP`, so neither is clamped. -/
theorem scaleIsSymmetricAboutMid : Obligations.ScaleIsSymmetricAboutMid := by
  intro wrap vol raw raw' hvol hsum
  have hlevels := mixedLevel_add_of_mirrored (vol := vol) hsum
  rw [← toNat_scale_of_le_wrap hvol (by omega), ← toNat_scale_of_le_wrap hvol (by omega)] at hlevels
  omega

/-! ## The volume commands (R145 to R147) -/

/-- Settles O17. -/
theorem volUpSaturates : Obligations.VolUpSaturates := fun _ _ => exec_of_no_cause rfl rfl

theorem ofNat_toNat_sub_one (v : Half) : BitVec.ofNat 16 (v.toNat - 1) = if v = 0#16 then 0#16 else v - 1#16 := by
  split_ifs with hv
  · rw [hv]
    rfl
  · bv_omega

/-- Settles O18: the truncated subtraction of naturals is the 16-bit one, except at 0. -/
theorem volDownSaturates : Obligations.VolDownSaturates := by
  intro s _
  rw [← ofNat_toNat_sub_one]
  exact exec_of_no_cause rfl rfl

theorem ofNat_min_ten (v : Half) : BitVec.ofNat 16 (min v.toNat 10) = if v.toNat ≤ 10 then v else 10#16 := by
  split_ifs with hv
  · rw [min_eq_left hv, BitVec.ofNat_toNat, BitVec.setWidth_eq]
  · rw [min_eq_right (by omega)]

/-- Settles O19: the least of the operand and `VOL_ONE`. -/
theorem setVolSaturates : Obligations.SetVolSaturates := by
  intro s vol _
  rw [← ofNat_min_ten]
  exact exec_of_no_cause rfl rfl

end Sys2Proof.Machine

/-! SUPPORT. The staging family (42_staging). Every write of `CREATE` stores the sample one fixed function of the
location gives, so the order in which the locations are written does not matter. -/

namespace Sys2Proof.Machine

/-! ## Stores of several samples (R67) -/

theorem hostSteps_cons_of_next {op : HostOp} {s t : State} (h : hostStep op s = .next t) (ops : List HostOp) :
    hostSteps (op :: ops) s = hostSteps ops t := by
  rw [hostSteps, h]

/-- A store over one sample leaves every other sample as it was. -/
theorem State.sb_of_mem_unchanged {s : State} {m : Memory} {h c h' c' : Bit} {j j' : Nat} (hp : s.params.wf = true)
    (hj : j < s.params.s) (hj' : j' < s.params.s) (hne : (h', c', j') ≠ (h, c, j))
    (hm : ∀ a, a < sbAddr s.params h c j ∨ sbAddr s.params h c j + 2 ≤ a → m.lookup a = s.mem.lookup a) :
    State.sb { s with mem := m } h' c' j' = s.sb h' c' j' := by
  obtain ⟨-, hsamples, -⟩ := memoryLocationsAreDisjoint s.params hp
  have hapart := hsamples h' h c' c j' j hj' hj hne
  exact State.readHalf_congr rfl fun a hlo hhi => hm a (by simp only at hlo hhi; omega)

/-- The host's store of the sample that `v` gives for the location `SB[h][c][j]`. -/
def storeSample (p : Params) (v : Bit → Bit → Nat → Half) : Bit × Bit × Nat → HostOp
  | (h, c, j) => HostOp.writeSb p h c j (v h c j)

theorem hostStep_storeSample {s : State} {h c : Bit} {j : Nat} (hp : s.params.wf = true) (hj : j < s.params.s)
    (v : Bit → Bit → Nat → Half) :
    ∃ m, hostStep (storeSample s.params v (h, c, j)) s = .next { s with mem := m } ∧
      ∀ h' c' j', j' < s.params.s → State.sb { s with mem := m } h' c' j' =
        if (h', c', j') = (h, c, j) then v h' c' j' else s.sb h' c' j' := by
  obtain ⟨m, hstep, hown, hframe⟩ := hostWriteSbStoresOneSample s h c j (v h c j) hp hj
  refine ⟨m, hstep, fun h' c' j' hj' => ?_⟩
  split_ifs with hplace
  · cases hplace
    exact hown
  · exact State.sb_of_mem_unchanged hp hj hj' hplace hframe

/-- Stores over a list of locations set the listed samples to those `v` gives, and no other. -/
theorem hostSteps_storeSamples (v : Bit → Bit → Nat → Half) (places : List (Bit × Bit × Nat)) (s : State)
    (hp : s.params.wf = true) (hplaces : ∀ h c j, (h, c, j) ∈ places → j < s.params.s) :
    ∃ m, hostSteps (places.map (storeSample s.params v)) s = .next { s with mem := m } ∧
      ∀ h c j, j < s.params.s → State.sb { s with mem := m } h c j =
        if (h, c, j) ∈ places then v h c j else s.sb h c j := by
  induction places generalizing s with
  | nil => exact ⟨s.mem, rfl, fun _ _ _ _ => rfl⟩
  | cons l places ih =>
    obtain ⟨h', c', j'⟩ := l
    have hj' : j' < s.params.s := hplaces _ _ _ List.mem_cons_self
    obtain ⟨m₁, hstep, hone⟩ := hostStep_storeSample (h := h') (c := c') hp hj' v
    obtain ⟨m, hsteps, hall⟩ := ih { s with mem := m₁ } hp fun _ _ _ hl =>
      hplaces _ _ _ (List.mem_cons_of_mem _ hl)
    refine ⟨m, (hostSteps_cons_of_next hstep _).trans hsteps, fun h c j hj => ?_⟩
    rw [hall h c j hj, hone h c j hj, ← ite_or]
    exact if_congr (or_comm.trans List.mem_cons.symm) rfl rfl

/-! ## `CREATE` (R163) -/

/-- The samples of half `h` that the mode uses, in the order in which a host fills the half. -/
def halfPlaces (p : Params) (mono : Bool) (h : Bit) : List (Bit × Bit × Nat) :=
  (List.range p.s).flatMap fun j => (h, 0#1, j) :: if mono then [] else [(h, 1#1, j)]

theorem mem_halfPlaces {p : Params} {mono : Bool} {h h' c : Bit} {j : Nat} :
    (h', c, j) ∈ halfPlaces p mono h ↔ h' = h ∧ j < p.s ∧ (c = 0#1 ∨ mono = false ∧ c = 1#1) := by
  have hframe : ∀ i, (h', c, j) ∈ ((h, 0#1, i) :: if mono then [] else [(h, 1#1, i)]) ↔
      h' = h ∧ (c = 0#1 ∨ mono = false ∧ c = 1#1) ∧ j = i := by
    intro i
    cases mono
    · simp [← and_or_left, ← or_and_right]
    · simp
  simp only [halfPlaces, List.mem_flatMap, List.mem_range, hframe]
  constructor
  · rintro ⟨i, hi, hh, hc, rfl⟩
    exact ⟨hh, hi, hc⟩
  · rintro ⟨hh, hj, hc⟩
    exact ⟨j, hj, hh, hc, rfl⟩

theorem fillHalf_eq_map {p : Params} {h : Bit} {src : Nat → Frame} {v : Bit → Bit → Nat → Half} (mono : Bool)
    (hleft : ∀ j, v h 0#1 j = (src j).left) (hright : ∀ j, v h 1#1 j = (src j).right) :
    fillHalf p mono h src = (halfPlaces p mono h).map (storeSample p v) := by
  rw [fillHalf, halfPlaces, List.map_flatMap]
  congr 1
  funext j
  cases mono <;> simp [writeFrame, storeSample, hleft, hright]

/-- The sample of the source that `CREATE` puts at `SB[h][c][j]` (R163). -/
def createSample (p : Params) (src : Nat → Frame) (h c : Bit) (j : Nat) : Half :=
  if c = 0#1 then (src (h.toNat * p.s + j)).left else (src (h.toNat * p.s + j)).right

theorem createOps_eq_map (p : Params) (mono : Bool) (src : Nat → Frame) :
    createOps p mono src =
      (halfPlaces p mono 0#1 ++ halfPlaces p mono 1#1).map (storeSample p (createSample p src)) := by
  rw [List.map_append, createOps]
  congr 1
  · exact fillHalf_eq_map mono (by simp [createSample]) (by simp [createSample])
  · exact fillHalf_eq_map mono (by simp [createSample]) (by simp [createSample])

theorem mem_createPlaces {p : Params} {mono : Bool} {h c : Bit} {j : Nat} :
    (h, c, j) ∈ halfPlaces p mono 0#1 ++ halfPlaces p mono 1#1 ↔ j < p.s ∧ (c = 0#1 ∨ mono = false ∧ c = 1#1) := by
  have hhalf : h = 0#1 ∨ h = 1#1 := by bv_omega
  rw [List.mem_append, mem_halfPlaces, mem_halfPlaces, ← or_and_right, and_iff_right hhalf]

/-- Settles O59: the locations listed are those the mode uses, each stored with its sample of the source. -/
theorem createFillsBothHalves : Obligations.CreateFillsBothHalves := by
  intro s mono src hp
  obtain ⟨m, hsteps, hsb⟩ := hostSteps_storeSamples (createSample s.params src) _ s hp
    fun _ _ _ hl => (mem_createPlaces (mono := mono).1 hl).1
  refine ⟨m, createOps_eq_map s.params mono src ▸ hsteps, fun h j hj => ⟨?_, fun hstereo => ?_⟩⟩
  · rw [hsb h 0#1 j hj, if_pos (mem_createPlaces.2 ⟨hj, .inl rfl⟩)]
    rfl
  · rw [hsb h 1#1 j hj, if_pos (mem_createPlaces.2 ⟨hj, .inr ⟨hstereo, rfl⟩⟩)]
    rfl

end Sys2Proof.Machine

/-! SUPPORT. The output driver (43_output_driver). What each command answers follows from the causes of its refusal
and its effect. -/

namespace Sys2Proof.Machine

/-- The four words of `canonical(0)` (R103, R201). -/
theorem canonicalDesc_zero (p : Params) :
    canonicalDesc p 0#1 = ⟨0x00010000#32, 0x00000028#32, BitVec.ofNat 32 p.n, 0x00000127#32⟩ := by
  simp [canonicalDesc, canonicalCtrl, tbBase, ccAddr, Bit.other]

/-- The four words of `canonical(1)` (R103, R201). -/
theorem canonicalDesc_one (p : Params) :
    canonicalDesc p 1#1 =
      ⟨BitVec.ofNat 32 (0x00010000 + 4 * p.n), 0x00000028#32, BitVec.ofNat 32 p.n, 0x00000027#32⟩ := by
  simp [canonicalDesc, canonicalCtrl, tbBase, ccAddr, Bit.other]

theorem encode_init_eq_append (pin : Byte) : encode (.init pin) = 0x010000#24 ++ pin :=
  (BitVec.append_assoc (x₁ := 0x01#8) (x₂ := 0#16) (x₃ := pin)).symm

theorem exec_of_configCause {i : Instr} {s : State} (hs : stateCause i s = false) (hc : configCause i s = true) :
    exec i s = .next (s.refuse .config (encode i)) := by
  simp [exec_eq, hs, hc]

/-- Settles O10. -/
theorem nopChangesNothing : Obligations.NopChangesNothing := fun _ _ => exec_of_no_cause rfl rfl

/-- Settles O15. -/
theorem stopDisarmsTheOutput : Obligations.StopDisarmsTheOutput := fun _ _ => exec_of_no_cause rfl rfl

/-- Settles O20. -/
theorem clrErrRearmsTheLatch : Obligations.ClrErrRearmsTheLatch := fun _ _ => exec_of_no_cause rfl rfl

/-- Settles O11: the cause of `E_STATE`, then that of `E_CONFIG`, then the effect with its descriptors written out. -/
theorem initConfiguresTheOutput : Obligations.InitConfiguresTheOutput := by
  intro s pin _
  rw [← encode_init_eq_append, ← canonicalDesc_zero, ← canonicalDesc_one]
  exact ⟨fun hrun => exec_of_stateCause hrun,
    fun hstop hwrap => exec_of_configCause hstop (beq_iff_eq.2 hwrap),
    fun hstop hwrap => exec_of_no_cause hstop (beq_eq_false_iff_ne.2 hwrap)⟩

/-- `RECONFIGURE` and `START` have the same causes of `E_STATE` (R178, R179, R243). -/
theorem stateCause_eq_true_iff {i : Instr} (hi : i = .reconfigure ∨ i = .start) (s : State) :
    stateCause i s = true ↔ s.running = true ∨ s.inited = false := by
  rcases hi with rfl | rfl <;> simp [stateCause]

theorem stateCause_eq_false {i : Instr} (hi : i = .reconfigure ∨ i = .start) {s : State}
    (hstop : s.running = false) (hinit : s.inited = true) : stateCause i s = false := by
  simp [Bool.eq_false_iff, stateCause_eq_true_iff hi, hstop, hinit]

/-- Settles O12. -/
theorem reconfigureChangesPeriodAndDivider : Obligations.ReconfigureChangesPeriodAndDivider := fun s _ =>
  ⟨fun hcause => exec_of_stateCause ((stateCause_eq_true_iff (.inl rfl) s).2 hcause),
    fun hstop hinit hwrap => exec_of_configCause (stateCause_eq_false (.inl rfl) hstop hinit) (beq_iff_eq.2 hwrap),
    fun hstop hinit hwrap =>
      exec_of_no_cause (stateCause_eq_false (.inl rfl) hstop hinit) (beq_eq_false_iff_ne.2 hwrap)⟩

/-- Settles O14. -/
theorem startArmsTheOutput : Obligations.StartArmsTheOutput := fun s _ =>
  ⟨fun hcause => exec_of_stateCause ((stateCause_eq_true_iff (.inr rfl) s).2 hcause),
    fun hstop hinit => exec_of_no_cause (stateCause_eq_false (.inr rfl) hstop hinit) rfl⟩

end Sys2Proof.Machine

/-! SUPPORT. The DMA scheduler (44_dma_scheduler). A run of `Tick`s from a start is described by the number of words
already output: its quotient by `N` is the passes ended, its remainder `POS`. -/

namespace Sys2Proof.Machine

/-! ## One `Tick` (R203) -/

theorem State.afterTick_of_inside {s : State} (h : s.pos.toNat + 1 ≠ s.params.n) :
    s.afterTick = { s with
      cc := s.tb s.act s.pos.toNat, out := s.out ++ [s.tb s.act s.pos.toNat], pos := s.pos + 1#14 } := by
  simp only [State.afterTick, if_neg h]

theorem State.afterTick_of_last {s : State} (h : s.pos.toNat + 1 = s.params.n) :
    s.afterTick = { s with
      cc := s.tb s.act s.pos.toNat, out := s.out ++ [s.tb s.act s.pos.toNat], pos := 0#14, act := s.act.other
      evq := s.queueAfter [tokenTransferDone s.act]
      evqOvf := s.ovfAfter [tokenTransferDone s.act] } := by
  simp only [State.afterTick, if_pos h]

/-- Settles O36. -/
theorem tickOutputsOneWord : Obligations.TickOutputsOneWord := by
  intro s h hrun
  rw [dsTurn_of_running h hrun, ← tokenTransferDone_eq]
  refine ⟨fun hinside => ?_, fun hlast => ?_⟩
  · rw [State.afterTick_of_inside hinside]
  · rw [State.afterTick_of_last hlast]
    rfl

/-! ## No turn stops (R202, R205) -/

theorem hostIssue_next (w : Word) (s : State) : ∃ t, hostIssue w s = .next t := by
  unfold hostIssue
  split
  · exact ⟨_, rfl⟩
  · split
    · exact exec_next _ _
    · exact ⟨_, rfl⟩

theorem hostStep_next (op : HostOp) (s : State) : ∃ t, hostStep op s = .next t := by
  cases op with
  | read a w => exact ⟨_, rfl⟩
  | write a w v =>
    show ∃ t, hostWrite a w v s = .next t
    unfold hostWrite
    split
    · exact hostIssue_next v s
    all_goals exact ⟨_, rfl⟩
  | reset => exact ⟨_, rfl⟩

theorem hostTurn_next (s : State) : ∃ t, hostTurn s = .next t := by
  unfold hostTurn
  split
  · exact ⟨_, rfl⟩
  · split
    · exact ⟨_, rfl⟩
    · exact hostStep_next _ _

/-- Only a `Tick` could stop, and the descriptors of a good running state are canonical. -/
theorem State.Inv.agentTurn_next {s : State} (h : s.Inv) (g : Agent) : ∃ t, Machine.agentTurn g s = .next t := by
  cases g with
  | host => exact hostTurn_next s
  | cp =>
    rcases cpTurn_cases s with ⟨-, e⟩ | ⟨-, e⟩
    · exact ⟨_, e⟩
    · exact ⟨_, e⟩
  | ds =>
    rcases dsTurn_cases s with ⟨hrun, e⟩ | ⟨-, e⟩
    · exact ⟨_, e.trans (h.tick_next hrun)⟩
    · exact ⟨_, e⟩

/-- Settles O54. -/
theorem goodStatesNeverStop : Obligations.GoodStatesNeverStop := by
  intro s h
  rcases step_cases s with ⟨-, e⟩ | ⟨g, rest, -, e⟩ <;> rw [e]
  · exact ⟨s, rfl⟩
  · exact (h.beginTurn rest).agentTurn_next g

/-! ## The stream of a run of `Tick`s (R204, R206) -/

theorem Bit.other_ofNat (q : Nat) : Bit.other (BitVec.ofNat 1 q) = BitVec.ofNat 1 (q + 1) := by
  simpa using other_xor_ofNat 0#1 q

theorem tokenTransferDone_ofNat (q : Nat) :
    tokenTransferDone (BitVec.ofNat 1 q) = if q % 2 = 0 then 0x00000001#32 else 0x00000101#32 := by
  have hzero : BitVec.ofNat 1 q = 0#1 ↔ q % 2 = 0 := by
    rw [← BitVec.toNat_inj, BitVec.toNat_ofNat]
    rfl
  rw [tokenTransferDone_eq]
  simp only [hzero]

/-- The tokens of the first `q` passes that end after a start (R203, R206). -/
def passTokens (q : Nat) : List Word := (List.range q).map fun p => tokenTransferDone (BitVec.ofNat 1 p)

theorem passTokens_succ (q : Nat) : passTokens (q + 1) = passTokens q ++ [tokenTransferDone (BitVec.ofNat 1 q)] := by
  rw [passTokens, List.range_succ, List.map_append]
  rfl

/-- `t` stands `c` words after the start `s`, and nothing but `DS` has written the block (R204). -/
structure State.Streamed (s : State) (c : Nat) (t : State) : Prop where
  enMask : t.enMask = s.enMask
  mem : t.mem = s.mem
  out : t.out = s.out ++ (List.range c).map fun j => s.tb (BitVec.ofNat 1 (j / s.params.n)) (j % s.params.n)
  act : t.act = BitVec.ofNat 1 (c / s.params.n)
  pos : t.pos.toNat = c % s.params.n
  pushed : s.Pushed (passTokens (c / s.params.n)) t

namespace State.Streamed

variable {s t : State} {c : Nat}

theorem start (h : s.Inv) (hact : s.act = 0#1) (hpos : s.pos = 0#14) : s.Streamed 0 s where
  enMask := rfl
  mem := rfl
  out := (List.append_nil _).symm
  act := by rw [hact, Nat.zero_div]
  pos := by rw [hpos, Nat.zero_mod]; rfl
  pushed := by rw [Nat.zero_div]; exact .nil h.evqLength

theorem beginTurn (h : s.Streamed c t) (turns : List Agent) : s.Streamed c (t.beginTurn turns) := { h with }

theorem running (h : s.Streamed c t) (hrun : s.running = true) : t.running = true := by
  rw [State.running, h.enMask]
  exact hrun

theorem params (h : s.Streamed c t) : t.params = s.params := h.pushed.1

theorem mod_lt (h : s.Streamed c t) (ht : t.Inv) : c % s.params.n < s.params.n := by
  rw [← h.pos, ← h.params]
  exact ht.pos

/-- The next word output is the one `s` holds at the place reached, since no byte of memory has changed. -/
theorem out_succ (h : s.Streamed c t) (ht : t.Inv) (hw : ∀ i k, k < s.params.n → s.tbWritten i k) :
    t.out ++ [t.tb t.act t.pos.toNat] = s.out ++
      (List.range (c + 1)).map fun j => s.tb (BitVec.ofNat 1 (j / s.params.n)) (j % s.params.n) := by
  have hword : t.tb t.act t.pos.toNat = s.tb (BitVec.ofNat 1 (c / s.params.n)) (c % s.params.n) := by
    rw [h.act, h.pos]
    exact State.tb_of_written (hw _ _ (h.mod_lt ht)) h.params fun _ _ => by rw [h.mem]
  rw [hword, h.out, List.range_succ, List.map_append, List.append_assoc]
  rfl

/-- One `Tick` more: the last word of a buffer ends its pass, any other advances `POS`. -/
theorem afterTick (h : s.Streamed c t) (ht : t.Inv) (hw : ∀ i k, k < s.params.n → s.tbWritten i k) :
    s.Streamed (c + 1) t.afterTick := by
  by_cases hlast : t.pos.toNat + 1 = t.params.n
  · obtain ⟨hdiv, hmod⟩ := div_mod_succ_of_last (h.pos ▸ h.params ▸ hlast)
    have htokens : passTokens ((c + 1) / s.params.n) =
        passTokens (c / s.params.n) ++ [tokenTransferDone t.act] := by rw [hdiv, passTokens_succ, h.act]
    rw [State.afterTick_of_last hlast]
    exact {
      enMask := h.enMask
      mem := h.mem
      out := h.out_succ ht hw
      act := by rw [hdiv, h.act, Bit.other_ofNat]
      pos := hmod.symm
      pushed := by rw [htokens]; exact ⟨h.params, h.pushed.queueAfter _, h.pushed.ovfAfter _⟩ }
  · have hinside : c % s.params.n + 1 < s.params.n := by
      have hlt := h.mod_lt ht
      rw [h.pos, h.params] at hlast
      omega
    obtain ⟨hdiv, hmod⟩ := div_mod_succ_of_inside hinside
    rw [State.afterTick_of_inside hlast]
    exact {
      enMask := h.enMask
      mem := h.mem
      out := h.out_succ ht hw
      act := hdiv ▸ h.act
      pos := by rw [toNat_wordIndex_succ ht.paramsWf ht.pos, h.pos, hmod]
      pushed := hdiv ▸ h.pushed }

end State.Streamed

/-- The stream that starts at `s`, with one turn of `DS` scheduled for each of its `m` words still to come. -/
def State.StreamRun (s : State) (m : Nat) (sched : List Agent) (t : State) : Prop :=
  t.Inv ∧ (∀ g ∈ sched, g = .ds) ∧ ∃ c, c + sched.length = m ∧ s.Streamed c t

theorem State.StreamRun.turn {s t : State} {m : Nat} {g : Agent} {sched : List Agent} (hrun : s.running = true)
    (hw : ∀ i k, k < s.params.n → s.tbWritten i k) (h : s.StreamRun m (g :: sched) t) (turns : List Agent) :
    ∃ u, agentTurn g (t.beginTurn turns) = .next u ∧ s.StreamRun m sched u ∧ u.turns = turns := by
  obtain ⟨hinv, hds, c, hcount, hstream⟩ := h
  obtain ⟨rfl, hrest⟩ := List.forall_mem_cons.1 hds
  rw [List.length_cons] at hcount
  replace hinv := hinv.beginTurn turns
  replace hstream := hstream.beginTurn turns
  have hrun' := hstream.running hrun
  exact ⟨_, dsTurn_of_running hinv hrun', ⟨hinv.afterTick hrun', hrest, c + 1, by omega, hstream.afterTick hinv hw⟩, rfl⟩

/-- Settles O40, by induction over the `m` turns. -/
theorem ticksStreamTheTwoBuffersInTurn : Obligations.TicksStreamTheTwoBuffersInTurn := by
  intro s m rest hinv hrun hact hpos hw hturns
  have hstart : s.StreamRun m (List.replicate m .ds) s :=
    ⟨hinv, fun _ hg => List.eq_of_mem_replicate hg, 0, by rw [List.length_replicate, Nat.zero_add],
      .start hinv hact hpos⟩
  obtain ⟨t, hrun', ⟨-, -, c, hc, hstream⟩, -⟩ :=
    run_schedule (fun _ _ turns _ h => h.turn hrun hw turns) hstart hturns
  obtain rfl : c = m := hc
  rw [List.length_replicate] at hrun'
  obtain ⟨-, hevq, -⟩ := hstream.pushed
  simp only [passTokens, tokenTransferDone_ofNat] at hevq
  exact ⟨t, hrun', hstream.out, hstream.act, hstream.pos, hevq, hstream.mem, hstream.running hrun⟩

end Sys2Proof.Machine

/-! SUPPORT. The host sequences (45_host_sequences): what a host that runs `MAIN_LOOP` does at its turn. -/

namespace Sys2Proof.Machine

/-! ## The host's accesses the loop uses (R66, R91, R250) -/

theorem hostStep_issue {s : State} (h : s.halt = false) (i : Instr) : hostStep (HostOp.issue (encode i)) s = exec i s :=
  hostIssue_of_legal h (decodeEncodeRoundTrip i)

theorem hostStep_readRing (s : State) : hostStep readRing s = .next (s.giveHost s.ringWord) := rfl

theorem hostStep_pop (s : State) : hostStep HostOp.pop s = .next ((s.giveHost s.evqHead).evqPop) := rfl

theorem State.accepting.holds_eq_false {s : State} (h : s.accepting) (op : HostOp) : s.holds op = false := by
  simp [State.holds, h.2]

/-! ## What the loop does with a popped token (R223) -/

theorem mainLoopAction_transferDone (i : Bit) :
    mainLoopAction (BitVec.ofNat 32 (1 + 256 * i.toNat)) = .command (.refill i) := by
  revert i
  decide

theorem mainLoopAction_of_no_token {t : Word} (hempty : t ≠ tokenEmpty) (ht : t ∉ queueTokens) :
    mainLoopAction t = .haltLoop := by
  simp only [queueTokens, externalTokens, List.cons_append, List.nil_append, List.mem_cons, List.not_mem_nil,
    or_false, not_or] at ht
  simp [mainLoopAction, hempty, ht]

theorem MainLoop.handle_command (l : MainLoop) {t : Word} {i : Instr} (ht : mainLoopAction t = .command i) :
    l.handle t = { l with todo := [HostOp.issue (encode i)], point := .nextToken } := by
  simp only [MainLoop.handle, ht]

theorem MainLoop.handle_no_token (l : MainLoop) {t : Word} (hempty : t ≠ tokenEmpty) (ht : t ∉ queueTokens) :
    l.handle t = { l with point := .halted } := by
  simp only [MainLoop.handle, mainLoopAction_of_no_token hempty ht]

/-! ## A turn of the host at which nothing of the loop is pending -/

section

variable {cycle : Nat → Source} {frames : Nat → Nat → Frame} {l l' : MainLoop} {s : State} {rest : List Agent}

theorem scheduledStep_no_op (hops : s.hostOps = []) (hturns : s.turns = .host :: rest) :
    scheduledStep s = .next (s.beginTurn rest) := by
  simp only [scheduledStep, hturns, agentTurn, hostTurn, State.beginTurn_hostOps, hops]

variable (htodo : l.todo = []) (hops : s.hostOps = []) (hturns : s.turns = .host :: rest)
include htodo hops hturns

/-- The loop decides on no operation: the turn passes. -/
theorem mainLoopStep_no_op (hl : l.resume s.params cycle frames s.irq (s.returned.getLastD 0#32) = l')
    (hl' : l'.todo = []) : mainLoopStep cycle frames l s = (l', .next (s.beginTurn rest)) := by
  have hoffer : l'.offer s = (l', s) := by simp only [MainLoop.offer, hl']
  rw [mainLoopStep_host hturns, MainLoop.feed_resume hops htodo, hl, hoffer, scheduledStep_no_op hops hturns]

/-- The loop decides on operations, and the block performs the first. -/
theorem mainLoopStep_op {op : HostOp} {ops : List HostOp}
    (hl : l.resume s.params cycle frames s.irq (s.returned.getLastD 0#32) = l') (hl' : l'.todo = op :: ops)
    (hop : s.holds op = false) :
    mainLoopStep cycle frames l s = ({ l' with todo := ops }, hostStep op (s.beginTurn rest)) := by
  have hoffer : l'.offer s = ({ l' with todo := ops }, s.setHostOps [op]) := by simp only [MainLoop.offer, hl']
  rw [mainLoopStep_host hturns, MainLoop.feed_resume hops htodo, hl, hoffer, scheduledStep_offered hturns hop, ← hops]
  rfl

/-- The head of the loop, `IRQ = 0`: wait. -/
theorem mainLoopStep_wait (hpoint : l.point = .nextToken) (hkept : l.kept = []) (hevq : s.evq = []) :
    mainLoopStep cycle frames l s = (l, .next (s.beginTurn rest)) :=
  mainLoopStep_no_op htodo hops hturns (by simp [MainLoop.resume, hpoint, hkept, State.irq, hevq]) htodo

/-- The head of the loop, `IRQ = 1`: `POP`. -/
theorem mainLoopStep_pop {t : Word} {q : List Word} (hpoint : l.point = .nextToken) (hkept : l.kept = [])
    (hevq : s.evq = t :: q) :
    mainLoopStep cycle frames l s = ({ l with point := .popped },
      .next { s.beginTurn rest with evq := q, returned := s.returned ++ [t] }) := by
  have hl : l.resume s.params cycle frames s.irq (s.returned.getLastD 0#32) =
      { l with todo := [HostOp.pop], point := .popped } := by
    simp [MainLoop.resume, hpoint, hkept, State.irq, hevq]
  rw [mainLoopStep_op htodo hops hturns hl rfl rfl, hostStep_pop, htodo]
  simp [State.giveHost, State.evqPop, State.setEvq, State.evqHead, hevq]

/-- The loop left or halted: nothing more. -/
theorem mainLoopStep_stopped (hpoint : l.point = .left ∨ l.point = .halted) :
    mainLoopStep cycle frames l s = (l, .next (s.beginTurn rest)) :=
  mainLoopStep_no_op htodo hops hturns (by rcases hpoint with h | h <;> simp [MainLoop.resume, h]) htodo

variable {t : Word} (hpoint : l.point = .popped) (hlast : s.returned.getLast? = some t)
include hpoint hlast

omit htodo hops hturns in
theorem MainLoop.resume_popped :
    l.resume s.params cycle frames s.irq (s.returned.getLastD 0#32) = l.handle t := by
  rw [MainLoop.resume, hpoint, List.getLastD_eq_getLast?, hlast]
  rfl

/-- A token popped whose work has no operation. -/
theorem mainLoopStep_popped_no_op (hl : l.handle t = l') (hl' : l'.todo = []) :
    mainLoopStep cycle frames l s = (l', .next (s.beginTurn rest)) :=
  mainLoopStep_no_op htodo hops hturns ((MainLoop.resume_popped hpoint hlast).trans hl) hl'

variable (hacc : s.accepting)
include hacc

/-- A token popped whose work begins with the operation `op`. -/
theorem mainLoopStep_popped_op {op : HostOp} {ops : List HostOp} (hl : l.handle t = l') (hl' : l'.todo = op :: ops) :
    mainLoopStep cycle frames l s = ({ l' with todo := ops }, hostStep op (s.beginTurn rest)) :=
  mainLoopStep_op htodo hops hturns ((MainLoop.resume_popped hpoint hlast).trans hl) hl' (hacc.holds_eq_false op)

/-- A token popped whose work begins with the command `i`. -/
theorem mainLoopStep_popped_issue {i : Instr} {ops : List HostOp} (hl : l.handle t = l')
    (hl' : l'.todo = HostOp.issue (encode i) :: ops) :
    mainLoopStep cycle frames l s = ({ l' with todo := ops }, exec i (s.beginTurn rest)) := by
  rw [← hostStep_issue (s := s.beginTurn rest) hacc.1 i]
  exact mainLoopStep_popped_op htodo hops hturns hpoint hlast hacc hl hl'

/-- A token popped whose work is the command `i`. -/
theorem mainLoopStep_popped_command {i : Instr} (hi : mainLoopAction t = .command i) :
    mainLoopStep cycle frames l s = ({ l with point := .nextToken }, exec i (s.beginTurn rest)) := by
  rw [mainLoopStep_popped_issue htodo hops hturns hpoint hlast hacc (l.handle_command hi) rfl, ← htodo]

end

/-- Settles O60, one clause after the other, with the work of a popped token as `mainLoopAction` gives it. -/
theorem mainLoopServesTheQueue : Obligations.MainLoopServesTheQueue := by
  rintro cycle frames ⟨todo, point, kept, source, pulled⟩ s rest rfl hops hturns r s'
  refine ⟨mainLoopStep_wait rfl hops hturns, fun t q => mainLoopStep_pop rfl hops hturns, ?_,
    mainLoopStep_stopped rfl hops hturns⟩
  intro t hpoint hlast hacc
  have hcommand {i : Instr} (hi : mainLoopAction t = .command i) :
      r = (⟨[], .nextToken, kept, source, pulled⟩, exec i s') :=
    mainLoopStep_popped_command rfl hops hturns hpoint hlast hacc hi
  refine ⟨fun i ht => hcommand (ht ▸ mainLoopAction_transferDone i), ?ringRead, ?volUp, ?volDown, ?changeSource, ?quit,
    ?empty, fun hempty ht => ?noToken⟩
  case ringRead =>
    rintro rfl
    exact mainLoopStep_popped_op (op := readRing) (ops := []) rfl hops hturns hpoint hlast hacc rfl rfl
  case volUp => exact fun ht => hcommand (ht ▸ rfl)
  case volDown => exact fun ht => hcommand (ht ▸ rfl)
  case changeSource =>
    rintro rfl
    exact mainLoopStep_popped_issue (ops := [.pop]) rfl hops hturns hpoint hlast hacc rfl rfl
  case quit =>
    rintro rfl
    exact mainLoopStep_popped_issue (ops := []) rfl hops hturns hpoint hlast hacc rfl rfl
  case empty =>
    rintro rfl
    exact mainLoopStep_popped_no_op rfl hops hturns hpoint hlast rfl rfl
  case noToken =>
    exact mainLoopStep_popped_no_op rfl hops hturns hpoint hlast (MainLoop.handle_no_token _ hempty ht) rfl

end Sys2Proof.Machine

/-! SUPPORT. The exceptions family (60_exceptions): the latch and the causes of a refusal, the event queue and the
host's two ports to it, and what a halted block keeps. -/

namespace Sys2Proof.Machine

/-! ## The latch (R240 to R244) -/

theorem State.refuse_of_free {s : State} (h : s.err = .none) (code : ErrCode) (info : Word) :
    s.refuse code info = s.latch code info := if_pos h

theorem State.refuse_of_latched {s : State} (h : s.err ≠ .none) (code : ErrCode) (info : Word) :
    s.refuse code info = s := if_neg h

/-- Settles O21. -/
theorem refusalIsStickyFirst : Obligations.RefusalIsStickyFirst := fun _ code info =>
  ⟨fun hfree => State.refuse_of_free hfree code info, fun hlatched => State.refuse_of_latched hlatched code info⟩

theorem State.refuse_evq (s : State) (code : ErrCode) (info : Word) : (s.refuse code info).evq = s.evq := by
  rw [State.refuse_eq]

/-- No command's effect latches an error (R175, R181). -/
theorem State.effect_err_of_free {s : State} (h : s.err = .none) (i : Instr) : (s.effect i).err = .none := by
  cases i with
  | clrErr => rfl
  | _ => exact h

/-- The code a command leaves in a free latch: that of the first list its cause stands in (R243, R244). -/
theorem exec_err_of_free {i : Instr} {s t : State} (hfree : s.err = .none) (h : exec i s = .next t) :
    t.err = if stateCause i s then .state else if configCause i s then .config else .none := by
  rw [exec_eq] at h
  cases h
  split_ifs
  · rw [State.refuse_of_free hfree, State.latch_err]
  · rw [State.refuse_of_free hfree, State.latch_err]
  · exact State.effect_err_of_free hfree i

/-- Settles O22, cause by cause. -/
theorem refusalCausesAreTheListedOnes : Obligations.RefusalCausesAreTheListedOnes := by
  intro i s t _ hfree h
  rw [exec_err_of_free hfree h]
  cases stateCause i s
  · cases configCause i s <;> decide
  · simp

/-! ## The event queue (R248, R250, R252) -/

/-- Settles O41. -/
theorem evqPushDropsWhenFull : Obligations.EvqPushDropsWhenFull := fun _ _ =>
  ⟨fun hroom => if_pos hroom, fun hfull => if_neg (Nat.not_lt.2 hfull)⟩

/-- Settles O42. -/
theorem hostPopReturnsTheOldestToken : Obligations.HostPopReturnsTheOldestToken := by
  intro s
  refine ⟨fun hq => ?_, fun t q hq => ?_⟩ <;> refine (hostStep_pop s).trans ?_
  · simp [State.evqPop, State.setEvq, State.giveHost, State.evqHead, tokenEmpty, hq]
  · simp [State.evqPop, State.setEvq, State.giveHost, State.evqHead, hq]

theorem hostStep_pushExt (v : Word) (s : State) :
    hostStep (HostOp.pushExt v) s = .next (hostPushExt v s) := rfl

theorem mem_externalTokens_iff (v : Word) :
    v ∈ externalTokens ↔ v = 0x10#32 ∨ v = 0x11#32 ∨ v = 0x12#32 ∨ v = 0x13#32 := by
  simp [externalTokens]

/-- Settles O43. -/
theorem hostPushTakesTheExternalCodesOnly : Obligations.HostPushTakesTheExternalCodesOnly := by
  intro s v
  refine ⟨fun hv => ?_, fun h10 h11 h12 h13 => ?_⟩ <;> refine (hostStep_pushExt v s).trans (congrArg _ ?_)
  · exact if_pos ((mem_externalTokens_iff v).2 hv)
  · exact if_neg fun hv => by simp [mem_externalTokens_iff, h10, h11, h12, h13] at hv

/-! ## How tokens enter and leave (R248, R250) -/

/-- Only a 32-bit access reaches a register (R63). -/
theorem width_of_locate_reg {p : Params} {a : Nat} {w : Width} {r : Reg} (h : locate p a w = some (.reg r)) :
    w = .word := by
  cases w with
  | byte => cases h
  | half => rw [locate] at h; split at h <;> cases h
  | word => rfl

/-- `EVQ_POP` is the 32-bit location at offset `0x30` alone (R61). -/
theorem eq_pop_of_locate {p : Params} {a : Addr} {w : Width} (h : locate p a.toNat w = some (.reg .evqPop)) :
    HostOp.read a w = HostOp.pop := by
  obtain rfl := width_of_locate_reg h
  have ha : a.toNat = 0x30 := by simpa [registerMap] using mem_registerMap_of_locate h
  rw [HostOp.pop, BitVec.eq_of_toNat_eq (y := 0x030#18) ha]

/-- A host read leaves the queue alone, or is `HostPop` and removes the head (R66, R69, R250). -/
theorem hostRead_evq (a : Addr) (w : Width) (s : State) :
    (hostRead a w s).evq = s.evq ∨ (HostOp.read a w = HostOp.pop ∧ (hostRead a w s).evq = s.evq.tail) := by
  unfold hostRead
  split
  · next hl => exact .inr ⟨eq_pop_of_locate hl, rfl⟩
  · exact .inl rfl
  · exact .inl rfl
  · exact .inl rfl
  · exact .inl (s.refuse_evq _ _)

theorem hostIssue_evq {w : Word} {s t : State} (h : hostIssue w s = .next t) : t.evq = s.evq := by
  rcases hostIssue_cases h with ⟨-, rfl⟩ | ⟨-, i, -, he⟩ | ⟨-, rfl⟩
  · rfl
  · obtain ⟨-, -, -, -, hevq, -⟩ := commandsLeaveMemoryOutputAndQueue i s t he
    exact hevq
  · rfl

theorem hostPushExt_evq (v : Word) (s : State) :
    (hostPushExt v s).evq = s.evq ∨ ∃ u ∈ externalTokens, (hostPushExt v s).evq = s.evq ++ [u] := by
  unfold hostPushExt
  split
  · next hv => exact (s.evqPush_mayPush v).evq_eq.imp_right fun hq => ⟨v, hv, hq⟩
  · exact .inl (s.refuse_evq _ _)

theorem hostWrite_evq {a : Addr} {w : Width} {v : Word} {s t : State} (h : hostWrite a w v s = .next t) :
    t.evq = s.evq ∨ ∃ u ∈ externalTokens, t.evq = s.evq ++ [u] := by
  rcases hostWrite_cases h with ⟨-, -, hi⟩ | rfl | rfl | ⟨b, -, -, -, rfl⟩ | rfl
  · exact .inl (hostIssue_evq hi)
  · exact .inl rfl
  · exact hostPushExt_evq v s
  · exact .inl rfl
  · exact .inl (s.refuse_evq _ _)

/-- What the queue can become at the host's turn, but for `Reset`. -/
theorem hostTurn_evq {s t : State} (hr : s.hostOps.head? ≠ some .reset) (h : hostTurn s = .next t) :
    t.evq = s.evq ∨ (∃ u ∈ externalTokens, t.evq = s.evq ++ [u]) ∨
    (s.hostOps.head? = some HostOp.pop ∧ t.evq = s.evq.tail) := by
  rcases hostTurn_cases h with ⟨-, rfl⟩ | ⟨op, ops, hops, ⟨-, rfl⟩ | ⟨-, hs⟩⟩
  · exact .inl rfl
  · exact .inl rfl
  rw [hops, List.head?_cons] at hr ⊢
  cases op with
  | read a w =>
    cases hs
    exact (hostRead_evq a w (s.setHostOps ops)).imp_right fun ⟨hop, hq⟩ => .inr ⟨congrArg some hop, hq⟩
  | write a w v => exact (hostWrite_evq hs).imp_right .inl
  | reset => exact absurd rfl hr

theorem cpTurn_mayPush {s t : State} (h : cpTurn s = .next t) : s.MayPush t tokenStagingReq := by
  rcases cpTurn_cases s with ⟨-, e⟩ | ⟨-, e⟩ <;> rw [e] at h <;> cases h
  · exact refillWord_mayPush s
  · exact .refl s _

/-- Settles O57: the hardware's turns push their own tokens, and the host's push external ones or pop. -/
theorem tokensEnterAtTheTailAndLeaveByPop : Obligations.TokensEnterAtTheTailAndLeaveByPop := by
  intro s t hreset ht
  rcases step_cases s with ⟨-, e⟩ | ⟨g, rest, hturns, e⟩ <;> rw [e] at ht
  · cases ht
    exact .inl rfl
  cases g with
  | host =>
    have hop : s.hostOps.head? ≠ some .reset := by simpa [State.resetNext, hturns] using hreset
    rcases hostTurn_evq (s := s.beginTurn rest) hop ht with hq | ⟨u, hu, hq⟩ | ⟨hpop, hq⟩
    · exact .inl hq
    · exact .inr (.inl ⟨u, List.mem_append_right _ hu, hq⟩)
    · exact .inr (.inr ⟨by rw [hturns, List.head?_cons], hpop, hq⟩)
  | cp => exact (cpTurn_mayPush ht).evq_eq.imp_right fun hq => .inl ⟨_, by decide, hq⟩
  | ds =>
    exact (dsTurn_mayPush ht).evq_eq.imp_right fun hq => .inl ⟨_, tokenTransferDone_mem_queueTokens _, hq⟩

/-! ## The halted block (R241) -/

/-- What a host access other than `Reset` can change of a halted block whose error is latched: `ARG`, the queue and
its overflow flag, staged samples, and what the host was given. -/
theorem hostStep_of_halted {op : HostOp} {s t : State} (hop : op ≠ .reset) (hhalt : s.halt = true)
    (herr : s.err ≠ .none) (h : hostStep op s = .next t) :
    t = { s with arg := t.arg, evq := t.evq, evqOvf := t.evqOvf, mem := t.mem, returned := t.returned } := by
  cases op with
  | read a w =>
    cases h
    rcases hostRead_cases a w s with ⟨v, e⟩ | e | e <;> rw [e]
    · rfl
    · rfl
    · rw [State.refuseAccess, State.refuse_of_latched herr]
      rfl
  | write a w v =>
    rcases hostWrite_cases h with ⟨-, -, hi⟩ | rfl | rfl | ⟨b, -, -, -, rfl⟩ | rfl
    · rw [hostIssue_of_halt hhalt] at hi
      cases hi
      rfl
    · rfl
    · unfold hostPushExt
      split
      · rw [State.evqPush_eq]
      · rw [State.refuse_of_latched herr]
    · rfl
    · rw [State.refuseAccess, State.refuse_of_latched herr]
  | reset => contradiction

/-- The invariants keep a halted block's hardware idle and its error latched, so every step but `Reset` is an access of
the host's or passes. -/
theorem step_of_halted {s t : State} (hinv : s.Inv) (hhalt : s.halt = true) (hreset : s.resetNext = false)
    (h : step s = .next t) :
    t = { s with
      arg := t.arg, evq := t.evq, evqOvf := t.evqOvf, mem := t.mem, returned := t.returned
      hostOps := t.hostOps, turns := t.turns, freeIdx := t.freeIdx } := by
  obtain ⟨hmask, hbusy, herr⟩ := hinv.haltStopped hhalt
  rcases step_cases s with ⟨-, e⟩ | ⟨g, rest, hturns, e⟩ <;> rw [e] at h
  · cases h
    rfl
  cases g with
  | host =>
    rcases hostTurn_cases h with ⟨-, rfl⟩ | ⟨op, ops, hops, ⟨-, rfl⟩ | ⟨-, hs⟩⟩
    · rfl
    · rfl
    · have hops : s.hostOps = op :: ops := hops
      have hop : op ≠ .reset := by simpa [State.resetNext, hturns, hops] using hreset
      rw [hostStep_of_halted (s := (s.beginTurn rest).setHostOps ops) hop hhalt (by simp [herr]) hs]
      rfl
  | cp =>
    rw [agentTurn, cpTurn, if_neg (by simp [hbusy])] at h
    cases h
    rfl
  | ds =>
    rw [agentTurn, dsTurn, if_neg (by simp [State.running, hmask])] at h
    cases h
    rfl

/-- Settles O55. -/
theorem haltIsLeftOnlyByReset : Obligations.HaltIsLeftOnlyByReset := by
  intro s t hinv hhalt hreset ht
  obtain ⟨hmask, hbusy, -⟩ := hinv.haltStopped hhalt
  rw [step_of_halted hinv hhalt hreset ht]
  simp [hhalt, hmask, hbusy]

end Sys2Proof.Machine

/-! SUPPORT. The reset family (70_reset_and_hazards): the host's `Reset` from any state (R280). -/

namespace Sys2Proof.Machine

/-- The open parameters have no part in any other field of the reset table (R41). -/
theorem State.resetWith_eq_reset (p : Params) : State.resetWith p = { State.reset with params := p } := rfl

/-- Log entry 9: what of a state outlives `Reset`. -/
theorem State.afterReset_eq (s : State) :
    s.afterReset =
      { State.reset with params := s.params, hostOps := s.hostOps, turns := s.turns, freeIdx := s.freeIdx } := by
  rw [State.afterReset, State.resetWith_eq_reset]

theorem hostStep_reset (s : State) : hostStep .reset s = .next s.afterReset := rfl

/-- Settles O51: the host's `Reset` has no gate, and of the state before it only log entry 9's fields are left. -/
theorem resetStepRestoresTheTable : Obligations.ResetStepRestoresTheTable := by
  intro s
  rw [hostStep_reset, State.afterReset_eq]

end Sys2Proof.Machine
